-- ==== Sys2Proof/Word.lean ====
section
/-!
DEFINITION. The two word types of CORE (spec/00_scope.md R6): bytes (registers A, X, Y, the cycle counter,
one memory cell) and 16-bit words (pc, sp, addresses). Every value is unsigned.
-/

namespace Sys2Proof

/-- Data width 8 bits (R6). -/
abbrev Byte := BitVec 8

/-- Address, program counter and stack pointer width 16 bits (R6). -/
abbrev Word := BitVec 16

end Sys2Proof
end

