-- ==== Sys2Proof/Config.lean ====
section
/-!
DEFINITION. What an implementation of CORE fixes: the parameters spec/00_scope.md R9 leaves open (their TYPES; the values
this spec takes are Sys2Proof.Machine.params in Machine/Ops.lean), and the free values, constants without a body that stand
for what the spec does not state.
-/

namespace Sys2Proof.Config

/-- What a 16-bit sum does past 0xFFFF: the two settings of PC_OVERFLOW and of EA_OVERFLOW (R9, U1, U2). -/
inductive Overflow where
  /-- modulo 65536 -/
  | wrap
  /-- the model stops with the ModelFault of R181 -/
  | fault
deriving DecidableEq, Repr

/-- ABS_ADDR_FETCH_CYCLES (R9, R105, U4): what fetching the two address bytes of an absolute operand charges. -/
inductive AddrFetch where
  /-- value 2: one increment per byte -/
  | perByte
  /-- value 1: the pair as one unit -/
  | perPair
deriving DecidableEq, Repr

/-- The parameters of R9 that a rule of the step reads. FREQUENCY (R8) is read by no architectural rule and the
opcode bytes are constants of the decoder. -/
structure Params where
  /-- PC_OVERFLOW -/
  pcOverflow : Overflow
  /-- EA_OVERFLOW -/
  eaOverflow : Overflow
  /-- ABS_ADDR_FETCH_CYCLES -/
  absAddrFetch : AddrFetch
  /-- MEMORY_LIMIT (R7) -/
  memoryLimit : Nat
deriving DecidableEq, Repr

/-- FREE VALUE (log entry 5): a 16-bit register the spec leaves unspecified, drawn by the counter `State.free`. -/
opaque freeWord : Nat → Word

/-- FREE VALUE (log entry 5): an 8-bit register the spec leaves unspecified, drawn by the counter `State.free`. -/
opaque freeByte : Nat → Byte

/-- FREE VALUE (log entry 5): a flag the spec leaves unspecified, drawn by the counter `State.free`. -/
opaque freeFlag : Nat → Bool

/-- FREE VALUE (log entry 5): the content of a memory the spec leaves unspecified, drawn by the counter `State.free`. -/
opaque freeImage : Nat → List Byte

/-- FREE VALUE (log entry 9): one reading of the throughput metric, which the spec treats as a draw (R165, U8). -/
opaque freeThroughput : Nat → Nat

end Sys2Proof.Config
end

