-- ==== Sys2Proof/Syntax.lean ====
section
/-!
DEFINITION. The abstract syntax: one constructor per row of spec/opcode_table.json (five load-accumulator forms, R84,
and one constructor for each of the 251 unmapped opcode bytes, R86, R140), and the operand forms the resolver
knows (R83, R102 to R106).
-/

namespace Sys2Proof

/-- The names of the 8-bit registers, the `i` of the spec's `x[i]` (spec/00_scope.md section 5, R20). -/
inductive Reg where
  | A | X | Y
deriving DecidableEq, Repr

/-- The five addressing modes of the resolver with the operand each carries in the instruction (R83). The index
register is an argument, as in the spec's ResolveZeroPageIndexed(i) and ResolveAbsoluteIndexed(i) (R104, R106). -/
inductive Operand where
  | immediate (imm : Byte)
  | zeroPage (zp : Byte)
  | zeroPageIndexed (zp : Byte) (i : Reg)
  | absolute (abs : Word)
  | absoluteIndexed (abs : Word) (i : Reg)
deriving DecidableEq, Repr

/-- The instructions: LDA #imm (R121), LDA zp (R122), LDA zp,X (R123), LDA abs (R124), LDA abs,X (R125), and
`unmapped<hex>`, the one-byte no-op of opcode byte `<hex>` (R140). -/
inductive Instr where
  | ldaImm (imm : Byte)
  | ldaZp (zp : Byte)
  | ldaZpX (zp : Byte)
  | ldaAbs (abs : Word)
  | ldaAbsX (abs : Word)
  | unmapped00 | unmapped01 | unmapped02 | unmapped03 | unmapped04 | unmapped05 | unmapped06 | unmapped07
  | unmapped08 | unmapped09 | unmapped0A | unmapped0B | unmapped0C | unmapped0D | unmapped0E | unmapped0F
  | unmapped10 | unmapped11 | unmapped12 | unmapped13 | unmapped14 | unmapped15 | unmapped16 | unmapped17
  | unmapped18 | unmapped19 | unmapped1A | unmapped1B | unmapped1C | unmapped1D | unmapped1E | unmapped1F
  | unmapped20 | unmapped21 | unmapped22 | unmapped23 | unmapped24 | unmapped25 | unmapped26 | unmapped27
  | unmapped28 | unmapped29 | unmapped2A | unmapped2B | unmapped2C | unmapped2D | unmapped2E | unmapped2F
  | unmapped30 | unmapped31 | unmapped32 | unmapped33 | unmapped34 | unmapped35 | unmapped36 | unmapped37
  | unmapped38 | unmapped39 | unmapped3A | unmapped3B | unmapped3C | unmapped3D | unmapped3E | unmapped3F
  | unmapped40 | unmapped41 | unmapped42 | unmapped43 | unmapped44 | unmapped45 | unmapped46 | unmapped47
  | unmapped48 | unmapped49 | unmapped4A | unmapped4B | unmapped4C | unmapped4D | unmapped4E | unmapped4F
  | unmapped50 | unmapped51 | unmapped52 | unmapped53 | unmapped54 | unmapped55 | unmapped56 | unmapped57
  | unmapped58 | unmapped59 | unmapped5A | unmapped5B | unmapped5C | unmapped5D | unmapped5E | unmapped5F
  | unmapped60 | unmapped61 | unmapped62 | unmapped63 | unmapped64 | unmapped65 | unmapped66 | unmapped67
  | unmapped68 | unmapped69 | unmapped6A | unmapped6B | unmapped6C | unmapped6D | unmapped6E | unmapped6F
  | unmapped70 | unmapped71 | unmapped72 | unmapped73 | unmapped74 | unmapped75 | unmapped76 | unmapped77
  | unmapped78 | unmapped79 | unmapped7A | unmapped7B | unmapped7C | unmapped7D | unmapped7E | unmapped7F
  | unmapped80 | unmapped81 | unmapped82 | unmapped83 | unmapped84 | unmapped85 | unmapped86 | unmapped87
  | unmapped88 | unmapped89 | unmapped8A | unmapped8B | unmapped8C | unmapped8D | unmapped8E | unmapped8F
  | unmapped90 | unmapped91 | unmapped92 | unmapped93 | unmapped94 | unmapped95 | unmapped96 | unmapped97
  | unmapped98 | unmapped99 | unmapped9A | unmapped9B | unmapped9C | unmapped9D | unmapped9E | unmapped9F
  | unmappedA0 | unmappedA1 | unmappedA2 | unmappedA3 | unmappedA4 | unmappedA6 | unmappedA7 | unmappedA8
  | unmappedAA | unmappedAB | unmappedAC | unmappedAE | unmappedAF | unmappedB0 | unmappedB1 | unmappedB2
  | unmappedB3 | unmappedB4 | unmappedB6 | unmappedB7 | unmappedB8 | unmappedB9 | unmappedBA | unmappedBB
  | unmappedBC | unmappedBE | unmappedBF | unmappedC0 | unmappedC1 | unmappedC2 | unmappedC3 | unmappedC4
  | unmappedC5 | unmappedC6 | unmappedC7 | unmappedC8 | unmappedC9 | unmappedCA | unmappedCB | unmappedCC
  | unmappedCD | unmappedCE | unmappedCF | unmappedD0 | unmappedD1 | unmappedD2 | unmappedD3 | unmappedD4
  | unmappedD5 | unmappedD6 | unmappedD7 | unmappedD8 | unmappedD9 | unmappedDA | unmappedDB | unmappedDC
  | unmappedDD | unmappedDE | unmappedDF | unmappedE0 | unmappedE1 | unmappedE2 | unmappedE3 | unmappedE4
  | unmappedE5 | unmappedE6 | unmappedE7 | unmappedE8 | unmappedE9 | unmappedEA | unmappedEB | unmappedEC
  | unmappedED | unmappedEE | unmappedEF | unmappedF0 | unmappedF1 | unmappedF2 | unmappedF3 | unmappedF4
  | unmappedF5 | unmappedF6 | unmappedF7 | unmappedF8 | unmappedF9 | unmappedFA | unmappedFB | unmappedFC
  | unmappedFD | unmappedFE | unmappedFF
deriving DecidableEq, Repr

/-- The operand an instruction carries; `none` for the unmapped opcodes (R81, format OP). -/
def Instr.operand? : Instr → Option Operand
  | .ldaImm imm => some (.immediate imm)
  | .ldaZp zp => some (.zeroPage zp)
  | .ldaZpX zp => some (.zeroPageIndexed zp .X)
  | .ldaAbs abs => some (.absolute abs)
  | .ldaAbsX abs => some (.absoluteIndexed abs .X)
  | .unmapped00 | .unmapped01 | .unmapped02 | .unmapped03 | .unmapped04 | .unmapped05 | .unmapped06 | .unmapped07
  | .unmapped08 | .unmapped09 | .unmapped0A | .unmapped0B | .unmapped0C | .unmapped0D | .unmapped0E | .unmapped0F
  | .unmapped10 | .unmapped11 | .unmapped12 | .unmapped13 | .unmapped14 | .unmapped15 | .unmapped16 | .unmapped17
  | .unmapped18 | .unmapped19 | .unmapped1A | .unmapped1B | .unmapped1C | .unmapped1D | .unmapped1E | .unmapped1F
  | .unmapped20 | .unmapped21 | .unmapped22 | .unmapped23 | .unmapped24 | .unmapped25 | .unmapped26 | .unmapped27
  | .unmapped28 | .unmapped29 | .unmapped2A | .unmapped2B | .unmapped2C | .unmapped2D | .unmapped2E | .unmapped2F
  | .unmapped30 | .unmapped31 | .unmapped32 | .unmapped33 | .unmapped34 | .unmapped35 | .unmapped36 | .unmapped37
  | .unmapped38 | .unmapped39 | .unmapped3A | .unmapped3B | .unmapped3C | .unmapped3D | .unmapped3E | .unmapped3F
  | .unmapped40 | .unmapped41 | .unmapped42 | .unmapped43 | .unmapped44 | .unmapped45 | .unmapped46 | .unmapped47
  | .unmapped48 | .unmapped49 | .unmapped4A | .unmapped4B | .unmapped4C | .unmapped4D | .unmapped4E | .unmapped4F
  | .unmapped50 | .unmapped51 | .unmapped52 | .unmapped53 | .unmapped54 | .unmapped55 | .unmapped56 | .unmapped57
  | .unmapped58 | .unmapped59 | .unmapped5A | .unmapped5B | .unmapped5C | .unmapped5D | .unmapped5E | .unmapped5F
  | .unmapped60 | .unmapped61 | .unmapped62 | .unmapped63 | .unmapped64 | .unmapped65 | .unmapped66 | .unmapped67
  | .unmapped68 | .unmapped69 | .unmapped6A | .unmapped6B | .unmapped6C | .unmapped6D | .unmapped6E | .unmapped6F
  | .unmapped70 | .unmapped71 | .unmapped72 | .unmapped73 | .unmapped74 | .unmapped75 | .unmapped76 | .unmapped77
  | .unmapped78 | .unmapped79 | .unmapped7A | .unmapped7B | .unmapped7C | .unmapped7D | .unmapped7E | .unmapped7F
  | .unmapped80 | .unmapped81 | .unmapped82 | .unmapped83 | .unmapped84 | .unmapped85 | .unmapped86 | .unmapped87
  | .unmapped88 | .unmapped89 | .unmapped8A | .unmapped8B | .unmapped8C | .unmapped8D | .unmapped8E | .unmapped8F
  | .unmapped90 | .unmapped91 | .unmapped92 | .unmapped93 | .unmapped94 | .unmapped95 | .unmapped96 | .unmapped97
  | .unmapped98 | .unmapped99 | .unmapped9A | .unmapped9B | .unmapped9C | .unmapped9D | .unmapped9E | .unmapped9F
  | .unmappedA0 | .unmappedA1 | .unmappedA2 | .unmappedA3 | .unmappedA4 | .unmappedA6 | .unmappedA7 | .unmappedA8
  | .unmappedAA | .unmappedAB | .unmappedAC | .unmappedAE | .unmappedAF | .unmappedB0 | .unmappedB1 | .unmappedB2
  | .unmappedB3 | .unmappedB4 | .unmappedB6 | .unmappedB7 | .unmappedB8 | .unmappedB9 | .unmappedBA | .unmappedBB
  | .unmappedBC | .unmappedBE | .unmappedBF | .unmappedC0 | .unmappedC1 | .unmappedC2 | .unmappedC3 | .unmappedC4
  | .unmappedC5 | .unmappedC6 | .unmappedC7 | .unmappedC8 | .unmappedC9 | .unmappedCA | .unmappedCB | .unmappedCC
  | .unmappedCD | .unmappedCE | .unmappedCF | .unmappedD0 | .unmappedD1 | .unmappedD2 | .unmappedD3 | .unmappedD4
  | .unmappedD5 | .unmappedD6 | .unmappedD7 | .unmappedD8 | .unmappedD9 | .unmappedDA | .unmappedDB | .unmappedDC
  | .unmappedDD | .unmappedDE | .unmappedDF | .unmappedE0 | .unmappedE1 | .unmappedE2 | .unmappedE3 | .unmappedE4
  | .unmappedE5 | .unmappedE6 | .unmappedE7 | .unmappedE8 | .unmappedE9 | .unmappedEA | .unmappedEB | .unmappedEC
  | .unmappedED | .unmappedEE | .unmappedEF | .unmappedF0 | .unmappedF1 | .unmappedF2 | .unmappedF3 | .unmappedF4
  | .unmappedF5 | .unmappedF6 | .unmappedF7 | .unmappedF8 | .unmappedF9 | .unmappedFA | .unmappedFB | .unmappedFC
  | .unmappedFD | .unmappedFE | .unmappedFF => none

/-- The byte count of the format of an operand form: opcode plus one or two operand bytes (R81). -/
def Operand.length : Operand → Nat
  | .immediate _ => 2
  | .zeroPage _ => 2
  | .zeroPageIndexed _ _ => 2
  | .absolute _ => 3
  | .absoluteIndexed _ _ => 3

/-- The byte count of an instruction: 1, 2 or 3 (R80, R81). -/
def Instr.length (i : Instr) : Nat :=
  match i.operand? with
  | some f => f.length
  | none => 1

end Sys2Proof
end

