-- ==== Sys2Proof/WellFormed.lean ====
section
/-!
DEFINITION. The checks on syntax and configuration. The operands of every instruction have exactly the width the encoding
gives them and no encoding is reserved or illegal (R83, R86), so the check on an instruction accepts every term; the checks
on a configuration (R53), on an assignment of opcode bytes (R85) and on an image (R61) do refuse some.
-/

namespace Sys2Proof

/-- An instruction is 1, 2 or 3 bytes long (R80). No term of `Instr` fails it: the operand types admit exactly the
encodable values (R83) and no encoding is illegal (R86). -/
def Instr.wellFormed (i : Instr) : Bool :=
  decide (1 ≤ i.length) && decide (i.length ≤ 3)

/-- MEMORY_LIMIT must lie above 256 and not above 65536 (R53). -/
def Config.Params.wellFormed (P : Config.Params) : Bool :=
  decide (256 < P.memoryLimit) && decide (P.memoryLimit ≤ 65536)

/-- The opcode bytes of the mapped instructions must be pairwise distinct (R85). -/
def opcodesDistinct (ops : List Byte) : Bool :=
  decide ops.Nodup

/-- The image can be made to fit the configured limit (R61, R183). -/
def imageFits (limit : Nat) (image : List Byte) : Bool :=
  decide (image.length ≤ limit)

end Sys2Proof
end

