-- ==== Sys2Proof/Decode.lean ====
section
/-!
DEFINITION. Decoding and encoding (spec/30_encoding.md R80 to R87): the opcode map, the decoder, total on any list of
bytes, the encoder, and the opcode table's numbering of an instruction's bits.
-/

namespace Sys2Proof

/-- OPC_LDA_IMM (R84; PRESUMED, log entry 1). -/
def opcLdaImm : Byte := 0xA9

/-- OPC_LDA_ZP (R84; PRESUMED, log entry 1). -/
def opcLdaZp : Byte := 0xA5

/-- OPC_LDA_ZPX (R84; PRESUMED, log entry 1). -/
def opcLdaZpX : Byte := 0xB5

/-- OPC_LDA_ABS (R84; PRESUMED, log entry 1). -/
def opcLdaAbs : Byte := 0xAD

/-- OPC_LDA_ABSX (R84; PRESUMED, log entry 1). -/
def opcLdaAbsX : Byte := 0xBD

/-- The five mapped opcode bytes (R84). -/
def mappedOpcodes : List Byte :=
  [opcLdaImm, opcLdaZp, opcLdaZpX, opcLdaAbs, opcLdaAbsX]

/-- A row of the opcode map, by format (R81): `op` an instruction of one byte, `opB` one with a byte operand, `opW`
one with a 16-bit operand. -/
inductive Row where
  | op (i : Instr)
  | opB (f : Byte → Instr)
  | opW (f : Word → Instr)

/-- The byte count of a row's format (R81). -/
def Row.length : Row → Nat
  | .op _ => 1
  | .opB _ => 2
  | .opW _ => 3

/-- Opcode bytes 0x00 to 0x0F (R84, R86). -/
def opcodeRows0 : List Row :=
  [.op .unmapped00, .op .unmapped01, .op .unmapped02, .op .unmapped03,
   .op .unmapped04, .op .unmapped05, .op .unmapped06, .op .unmapped07,
   .op .unmapped08, .op .unmapped09, .op .unmapped0A, .op .unmapped0B,
   .op .unmapped0C, .op .unmapped0D, .op .unmapped0E, .op .unmapped0F]

/-- Opcode bytes 0x10 to 0x1F (R84, R86). -/
def opcodeRows1 : List Row :=
  [.op .unmapped10, .op .unmapped11, .op .unmapped12, .op .unmapped13,
   .op .unmapped14, .op .unmapped15, .op .unmapped16, .op .unmapped17,
   .op .unmapped18, .op .unmapped19, .op .unmapped1A, .op .unmapped1B,
   .op .unmapped1C, .op .unmapped1D, .op .unmapped1E, .op .unmapped1F]

/-- Opcode bytes 0x20 to 0x2F (R84, R86). -/
def opcodeRows2 : List Row :=
  [.op .unmapped20, .op .unmapped21, .op .unmapped22, .op .unmapped23,
   .op .unmapped24, .op .unmapped25, .op .unmapped26, .op .unmapped27,
   .op .unmapped28, .op .unmapped29, .op .unmapped2A, .op .unmapped2B,
   .op .unmapped2C, .op .unmapped2D, .op .unmapped2E, .op .unmapped2F]

/-- Opcode bytes 0x30 to 0x3F (R84, R86). -/
def opcodeRows3 : List Row :=
  [.op .unmapped30, .op .unmapped31, .op .unmapped32, .op .unmapped33,
   .op .unmapped34, .op .unmapped35, .op .unmapped36, .op .unmapped37,
   .op .unmapped38, .op .unmapped39, .op .unmapped3A, .op .unmapped3B,
   .op .unmapped3C, .op .unmapped3D, .op .unmapped3E, .op .unmapped3F]

/-- Opcode bytes 0x40 to 0x4F (R84, R86). -/
def opcodeRows4 : List Row :=
  [.op .unmapped40, .op .unmapped41, .op .unmapped42, .op .unmapped43,
   .op .unmapped44, .op .unmapped45, .op .unmapped46, .op .unmapped47,
   .op .unmapped48, .op .unmapped49, .op .unmapped4A, .op .unmapped4B,
   .op .unmapped4C, .op .unmapped4D, .op .unmapped4E, .op .unmapped4F]

/-- Opcode bytes 0x50 to 0x5F (R84, R86). -/
def opcodeRows5 : List Row :=
  [.op .unmapped50, .op .unmapped51, .op .unmapped52, .op .unmapped53,
   .op .unmapped54, .op .unmapped55, .op .unmapped56, .op .unmapped57,
   .op .unmapped58, .op .unmapped59, .op .unmapped5A, .op .unmapped5B,
   .op .unmapped5C, .op .unmapped5D, .op .unmapped5E, .op .unmapped5F]

/-- Opcode bytes 0x60 to 0x6F (R84, R86). -/
def opcodeRows6 : List Row :=
  [.op .unmapped60, .op .unmapped61, .op .unmapped62, .op .unmapped63,
   .op .unmapped64, .op .unmapped65, .op .unmapped66, .op .unmapped67,
   .op .unmapped68, .op .unmapped69, .op .unmapped6A, .op .unmapped6B,
   .op .unmapped6C, .op .unmapped6D, .op .unmapped6E, .op .unmapped6F]

/-- Opcode bytes 0x70 to 0x7F (R84, R86). -/
def opcodeRows7 : List Row :=
  [.op .unmapped70, .op .unmapped71, .op .unmapped72, .op .unmapped73,
   .op .unmapped74, .op .unmapped75, .op .unmapped76, .op .unmapped77,
   .op .unmapped78, .op .unmapped79, .op .unmapped7A, .op .unmapped7B,
   .op .unmapped7C, .op .unmapped7D, .op .unmapped7E, .op .unmapped7F]

/-- Opcode bytes 0x80 to 0x8F (R84, R86). -/
def opcodeRows8 : List Row :=
  [.op .unmapped80, .op .unmapped81, .op .unmapped82, .op .unmapped83,
   .op .unmapped84, .op .unmapped85, .op .unmapped86, .op .unmapped87,
   .op .unmapped88, .op .unmapped89, .op .unmapped8A, .op .unmapped8B,
   .op .unmapped8C, .op .unmapped8D, .op .unmapped8E, .op .unmapped8F]

/-- Opcode bytes 0x90 to 0x9F (R84, R86). -/
def opcodeRows9 : List Row :=
  [.op .unmapped90, .op .unmapped91, .op .unmapped92, .op .unmapped93,
   .op .unmapped94, .op .unmapped95, .op .unmapped96, .op .unmapped97,
   .op .unmapped98, .op .unmapped99, .op .unmapped9A, .op .unmapped9B,
   .op .unmapped9C, .op .unmapped9D, .op .unmapped9E, .op .unmapped9F]

/-- Opcode bytes 0xA0 to 0xAF (R84, R86). -/
def opcodeRowsA : List Row :=
  [.op .unmappedA0, .op .unmappedA1, .op .unmappedA2, .op .unmappedA3,
   .op .unmappedA4, .opB .ldaZp, .op .unmappedA6, .op .unmappedA7,
   .op .unmappedA8, .opB .ldaImm, .op .unmappedAA, .op .unmappedAB,
   .op .unmappedAC, .opW .ldaAbs, .op .unmappedAE, .op .unmappedAF]

/-- Opcode bytes 0xB0 to 0xBF (R84, R86). -/
def opcodeRowsB : List Row :=
  [.op .unmappedB0, .op .unmappedB1, .op .unmappedB2, .op .unmappedB3,
   .op .unmappedB4, .opB .ldaZpX, .op .unmappedB6, .op .unmappedB7,
   .op .unmappedB8, .op .unmappedB9, .op .unmappedBA, .op .unmappedBB,
   .op .unmappedBC, .opW .ldaAbsX, .op .unmappedBE, .op .unmappedBF]

/-- Opcode bytes 0xC0 to 0xCF (R84, R86). -/
def opcodeRowsC : List Row :=
  [.op .unmappedC0, .op .unmappedC1, .op .unmappedC2, .op .unmappedC3,
   .op .unmappedC4, .op .unmappedC5, .op .unmappedC6, .op .unmappedC7,
   .op .unmappedC8, .op .unmappedC9, .op .unmappedCA, .op .unmappedCB,
   .op .unmappedCC, .op .unmappedCD, .op .unmappedCE, .op .unmappedCF]

/-- Opcode bytes 0xD0 to 0xDF (R84, R86). -/
def opcodeRowsD : List Row :=
  [.op .unmappedD0, .op .unmappedD1, .op .unmappedD2, .op .unmappedD3,
   .op .unmappedD4, .op .unmappedD5, .op .unmappedD6, .op .unmappedD7,
   .op .unmappedD8, .op .unmappedD9, .op .unmappedDA, .op .unmappedDB,
   .op .unmappedDC, .op .unmappedDD, .op .unmappedDE, .op .unmappedDF]

/-- Opcode bytes 0xE0 to 0xEF (R84, R86). -/
def opcodeRowsE : List Row :=
  [.op .unmappedE0, .op .unmappedE1, .op .unmappedE2, .op .unmappedE3,
   .op .unmappedE4, .op .unmappedE5, .op .unmappedE6, .op .unmappedE7,
   .op .unmappedE8, .op .unmappedE9, .op .unmappedEA, .op .unmappedEB,
   .op .unmappedEC, .op .unmappedED, .op .unmappedEE, .op .unmappedEF]

/-- Opcode bytes 0xF0 to 0xFF (R84, R86). -/
def opcodeRowsF : List Row :=
  [.op .unmappedF0, .op .unmappedF1, .op .unmappedF2, .op .unmappedF3,
   .op .unmappedF4, .op .unmappedF5, .op .unmappedF6, .op .unmappedF7,
   .op .unmappedF8, .op .unmappedF9, .op .unmappedFA, .op .unmappedFB,
   .op .unmappedFC, .op .unmappedFD, .op .unmappedFE, .op .unmappedFF]

/-- The opcode map: opcode byte `op` is entry `op mod 16` of list `op / 16` (R84, R86). -/
def opcodeRows : List (List Row) :=
  [opcodeRows0, opcodeRows1, opcodeRows2, opcodeRows3, opcodeRows4, opcodeRows5,
   opcodeRows6, opcodeRows7, opcodeRows8, opcodeRows9, opcodeRowsA, opcodeRowsB,
   opcodeRowsC, opcodeRowsD, opcodeRowsE, opcodeRowsF]

/-- The map has an entry for every opcode byte (R86), so the default of `rowOf` is never taken. -/
theorem opcodeRows_lengths : opcodeRows.map List.length = List.replicate 16 16 := rfl

/-- The row an opcode byte selects: a whole-byte lookup, a function of the byte alone (R80, R101). -/
def rowOf (op : Byte) : Row :=
  (opcodeRows.getD (op.toNat / 16) []).getD (op.toNat % 16) (.op .unmapped00)

/-- The length of the instruction whose byte 0 is `op` (R82). -/
def lengthOf (op : Byte) : Nat := (rowOf op).length

/-- The 16-bit operand of two bytes, the byte of the lower address in bits 7:0 (R55, R83 (d)). -/
def littleEndian (lo hi : Byte) : Word := hi ++ lo

/-- What the decoder answers. -/
inductive Decoded where
  /-- the instruction the bytes begin with, and the bytes after it -/
  | ok (i : Instr) (rest : List Byte)
  /-- the bytes end before the instruction does: no instruction is there to read. The only rejection, since every
  value of byte 0 is an instruction (R86). -/
  | truncated
deriving DecidableEq, Repr

/-- Decoding of any list of bytes: byte 0 selects the row, the row's format says how many operand bytes follow
(R80 to R84). -/
def decode : List Byte → Decoded
  | [] => .truncated
  | op :: rest =>
    match rowOf op, rest with
    | .op i, _ => .ok i rest
    | .opB f, b :: rest' => .ok (f b) rest'
    | .opW f, lo :: hi :: rest' => .ok (f (littleEndian lo hi)) rest'
    | _, _ => .truncated

/-- Bits 7:0 of an address: byte 1 of format OP_W (R81). -/
def lowByte (w : Word) : Byte := w.extractLsb' 0 8

/-- Bits 15:8 of an address: byte 2 of format OP_W (R81). -/
def highByte (w : Word) : Byte := w.extractLsb' 8 8

/-- The bytes of an instruction in memory order, byte 0 first (R80, R81, R84). -/
def encode : Instr → List Byte
  | .ldaImm imm => [opcLdaImm, imm]
  | .ldaZp zp => [opcLdaZp, zp]
  | .ldaZpX zp => [opcLdaZpX, zp]
  | .ldaAbs abs => [opcLdaAbs, lowByte abs, highByte abs]
  | .ldaAbsX abs => [opcLdaAbsX, lowByte abs, highByte abs]
  | .unmapped00 => [0x00] | .unmapped01 => [0x01] | .unmapped02 => [0x02] | .unmapped03 => [0x03]
  | .unmapped04 => [0x04] | .unmapped05 => [0x05] | .unmapped06 => [0x06] | .unmapped07 => [0x07]
  | .unmapped08 => [0x08] | .unmapped09 => [0x09] | .unmapped0A => [0x0A] | .unmapped0B => [0x0B]
  | .unmapped0C => [0x0C] | .unmapped0D => [0x0D] | .unmapped0E => [0x0E] | .unmapped0F => [0x0F]
  | .unmapped10 => [0x10] | .unmapped11 => [0x11] | .unmapped12 => [0x12] | .unmapped13 => [0x13]
  | .unmapped14 => [0x14] | .unmapped15 => [0x15] | .unmapped16 => [0x16] | .unmapped17 => [0x17]
  | .unmapped18 => [0x18] | .unmapped19 => [0x19] | .unmapped1A => [0x1A] | .unmapped1B => [0x1B]
  | .unmapped1C => [0x1C] | .unmapped1D => [0x1D] | .unmapped1E => [0x1E] | .unmapped1F => [0x1F]
  | .unmapped20 => [0x20] | .unmapped21 => [0x21] | .unmapped22 => [0x22] | .unmapped23 => [0x23]
  | .unmapped24 => [0x24] | .unmapped25 => [0x25] | .unmapped26 => [0x26] | .unmapped27 => [0x27]
  | .unmapped28 => [0x28] | .unmapped29 => [0x29] | .unmapped2A => [0x2A] | .unmapped2B => [0x2B]
  | .unmapped2C => [0x2C] | .unmapped2D => [0x2D] | .unmapped2E => [0x2E] | .unmapped2F => [0x2F]
  | .unmapped30 => [0x30] | .unmapped31 => [0x31] | .unmapped32 => [0x32] | .unmapped33 => [0x33]
  | .unmapped34 => [0x34] | .unmapped35 => [0x35] | .unmapped36 => [0x36] | .unmapped37 => [0x37]
  | .unmapped38 => [0x38] | .unmapped39 => [0x39] | .unmapped3A => [0x3A] | .unmapped3B => [0x3B]
  | .unmapped3C => [0x3C] | .unmapped3D => [0x3D] | .unmapped3E => [0x3E] | .unmapped3F => [0x3F]
  | .unmapped40 => [0x40] | .unmapped41 => [0x41] | .unmapped42 => [0x42] | .unmapped43 => [0x43]
  | .unmapped44 => [0x44] | .unmapped45 => [0x45] | .unmapped46 => [0x46] | .unmapped47 => [0x47]
  | .unmapped48 => [0x48] | .unmapped49 => [0x49] | .unmapped4A => [0x4A] | .unmapped4B => [0x4B]
  | .unmapped4C => [0x4C] | .unmapped4D => [0x4D] | .unmapped4E => [0x4E] | .unmapped4F => [0x4F]
  | .unmapped50 => [0x50] | .unmapped51 => [0x51] | .unmapped52 => [0x52] | .unmapped53 => [0x53]
  | .unmapped54 => [0x54] | .unmapped55 => [0x55] | .unmapped56 => [0x56] | .unmapped57 => [0x57]
  | .unmapped58 => [0x58] | .unmapped59 => [0x59] | .unmapped5A => [0x5A] | .unmapped5B => [0x5B]
  | .unmapped5C => [0x5C] | .unmapped5D => [0x5D] | .unmapped5E => [0x5E] | .unmapped5F => [0x5F]
  | .unmapped60 => [0x60] | .unmapped61 => [0x61] | .unmapped62 => [0x62] | .unmapped63 => [0x63]
  | .unmapped64 => [0x64] | .unmapped65 => [0x65] | .unmapped66 => [0x66] | .unmapped67 => [0x67]
  | .unmapped68 => [0x68] | .unmapped69 => [0x69] | .unmapped6A => [0x6A] | .unmapped6B => [0x6B]
  | .unmapped6C => [0x6C] | .unmapped6D => [0x6D] | .unmapped6E => [0x6E] | .unmapped6F => [0x6F]
  | .unmapped70 => [0x70] | .unmapped71 => [0x71] | .unmapped72 => [0x72] | .unmapped73 => [0x73]
  | .unmapped74 => [0x74] | .unmapped75 => [0x75] | .unmapped76 => [0x76] | .unmapped77 => [0x77]
  | .unmapped78 => [0x78] | .unmapped79 => [0x79] | .unmapped7A => [0x7A] | .unmapped7B => [0x7B]
  | .unmapped7C => [0x7C] | .unmapped7D => [0x7D] | .unmapped7E => [0x7E] | .unmapped7F => [0x7F]
  | .unmapped80 => [0x80] | .unmapped81 => [0x81] | .unmapped82 => [0x82] | .unmapped83 => [0x83]
  | .unmapped84 => [0x84] | .unmapped85 => [0x85] | .unmapped86 => [0x86] | .unmapped87 => [0x87]
  | .unmapped88 => [0x88] | .unmapped89 => [0x89] | .unmapped8A => [0x8A] | .unmapped8B => [0x8B]
  | .unmapped8C => [0x8C] | .unmapped8D => [0x8D] | .unmapped8E => [0x8E] | .unmapped8F => [0x8F]
  | .unmapped90 => [0x90] | .unmapped91 => [0x91] | .unmapped92 => [0x92] | .unmapped93 => [0x93]
  | .unmapped94 => [0x94] | .unmapped95 => [0x95] | .unmapped96 => [0x96] | .unmapped97 => [0x97]
  | .unmapped98 => [0x98] | .unmapped99 => [0x99] | .unmapped9A => [0x9A] | .unmapped9B => [0x9B]
  | .unmapped9C => [0x9C] | .unmapped9D => [0x9D] | .unmapped9E => [0x9E] | .unmapped9F => [0x9F]
  | .unmappedA0 => [0xA0] | .unmappedA1 => [0xA1] | .unmappedA2 => [0xA2] | .unmappedA3 => [0xA3]
  | .unmappedA4 => [0xA4] | .unmappedA6 => [0xA6] | .unmappedA7 => [0xA7] | .unmappedA8 => [0xA8]
  | .unmappedAA => [0xAA] | .unmappedAB => [0xAB] | .unmappedAC => [0xAC] | .unmappedAE => [0xAE]
  | .unmappedAF => [0xAF] | .unmappedB0 => [0xB0] | .unmappedB1 => [0xB1] | .unmappedB2 => [0xB2]
  | .unmappedB3 => [0xB3] | .unmappedB4 => [0xB4] | .unmappedB6 => [0xB6] | .unmappedB7 => [0xB7]
  | .unmappedB8 => [0xB8] | .unmappedB9 => [0xB9] | .unmappedBA => [0xBA] | .unmappedBB => [0xBB]
  | .unmappedBC => [0xBC] | .unmappedBE => [0xBE] | .unmappedBF => [0xBF] | .unmappedC0 => [0xC0]
  | .unmappedC1 => [0xC1] | .unmappedC2 => [0xC2] | .unmappedC3 => [0xC3] | .unmappedC4 => [0xC4]
  | .unmappedC5 => [0xC5] | .unmappedC6 => [0xC6] | .unmappedC7 => [0xC7] | .unmappedC8 => [0xC8]
  | .unmappedC9 => [0xC9] | .unmappedCA => [0xCA] | .unmappedCB => [0xCB] | .unmappedCC => [0xCC]
  | .unmappedCD => [0xCD] | .unmappedCE => [0xCE] | .unmappedCF => [0xCF] | .unmappedD0 => [0xD0]
  | .unmappedD1 => [0xD1] | .unmappedD2 => [0xD2] | .unmappedD3 => [0xD3] | .unmappedD4 => [0xD4]
  | .unmappedD5 => [0xD5] | .unmappedD6 => [0xD6] | .unmappedD7 => [0xD7] | .unmappedD8 => [0xD8]
  | .unmappedD9 => [0xD9] | .unmappedDA => [0xDA] | .unmappedDB => [0xDB] | .unmappedDC => [0xDC]
  | .unmappedDD => [0xDD] | .unmappedDE => [0xDE] | .unmappedDF => [0xDF] | .unmappedE0 => [0xE0]
  | .unmappedE1 => [0xE1] | .unmappedE2 => [0xE2] | .unmappedE3 => [0xE3] | .unmappedE4 => [0xE4]
  | .unmappedE5 => [0xE5] | .unmappedE6 => [0xE6] | .unmappedE7 => [0xE7] | .unmappedE8 => [0xE8]
  | .unmappedE9 => [0xE9] | .unmappedEA => [0xEA] | .unmappedEB => [0xEB] | .unmappedEC => [0xEC]
  | .unmappedED => [0xED] | .unmappedEE => [0xEE] | .unmappedEF => [0xEF] | .unmappedF0 => [0xF0]
  | .unmappedF1 => [0xF1] | .unmappedF2 => [0xF2] | .unmappedF3 => [0xF3] | .unmappedF4 => [0xF4]
  | .unmappedF5 => [0xF5] | .unmappedF6 => [0xF6] | .unmappedF7 => [0xF7] | .unmappedF8 => [0xF8]
  | .unmappedF9 => [0xF9] | .unmappedFA => [0xFA] | .unmappedFB => [0xFB] | .unmappedFC => [0xFC]
  | .unmappedFD => [0xFD] | .unmappedFE => [0xFE] | .unmappedFF => [0xFF]

/-- The three bytes of an instruction whose bits the opcode table numbers, byte 0 in bits 7:0, every bit from `nbits` on
being 0 (three bytes are the longest instruction). -/
def tableBytes (nbits w : Nat) : List Byte :=
  let v := w % 2 ^ nbits
  [BitVec.ofNat 8 v, BitVec.ofNat 8 (v / 256), BitVec.ofNat 8 (v / 65536)]

/-- The instruction the decoder reads from an opcode-table word. -/
def decodeTableWord (nbits w : Nat) : Option Instr :=
  match decode (tableBytes nbits w) with
  | .ok i _ => some i
  | .truncated => none

end Sys2Proof
end

