-- ==== Sys2Proof/Machine/State.lean ====
section
/-!
DEFINITION. The state of CORE (spec/10_state.md section 1 and R11: that list is complete), the requests of the caller
(spec/50_execution_control.md R150), the reasons a step can stop, and the state after reset (R200).
-/

namespace Sys2Proof.Machine

/-- The lifecycle state `run` (R36, R151). -/
inductive Run where
  /-- power-on, before the first reset -/
  | unreset
  /-- after a reset; no stream exists -/
  | stopped
  /-- the stream executes instructions -/
  | running
  /-- the stream is parked between two instructions -/
  | paused
  /-- after dispose; terminal -/
  | disposed
deriving DecidableEq, Repr

/-- The four requests of the caller (R150 (a)). -/
inductive Request where
  | reset (image : List Byte)
  | start
  | debugToggle
  | dispose
deriving DecidableEq, Repr

/-- A move of one of the two agents (R10): the execution stream takes a turn, or the caller's request takes effect. -/
inductive Move where
  | stream
  | request (r : Request)
deriving DecidableEq, Repr

/-- What the caller has been told of a request (R150 (a), R160, R183; log entry 7). -/
inductive Reply where
  /-- the request has completed -/
  | done
  /-- the reset reported the configuration error (R183) -/
  | configError
  /-- a debugToggle whose completion is still to come: it waits for `paused` to equal `value`, the `dbg` it left (R160) -/
  | awaiting (value : Bool)
deriving DecidableEq, Repr

/-- The Memory: the cells that hold something other than `Memory.unlisted`, addresses strictly rising (log entry 4). -/
abbrev Memory := List Host.Cell

/-- Everything the spec gives the machine (R11, spec/10_state.md section 1), then the model's own fields: `agenda`
(log entry 6), `replies` (log entry 7) and `free` (log entry 5). -/
structure State where
  /-- program counter (R25) -/
  pc : Word
  /-- stack pointer, 16 bits (R24) -/
  sp : Word
  /-- accumulator x[A] (R21) -/
  a : Byte
  /-- index register x[X] (R22) -/
  x : Byte
  /-- index register x[Y] (R23) -/
  y : Byte
  /-- carry (R28, R30) -/
  flagC : Bool
  /-- zero (R28, R29) -/
  flagZ : Bool
  /-- interrupt-disable (R28, R30) -/
  flagI : Bool
  /-- decimal-mode (R28, R30) -/
  flagD : Bool
  /-- break (R28, R30) -/
  flagB : Bool
  /-- overflow (R28, R30) -/
  flagV : Bool
  /-- negative (R28, R29) -/
  flagN : Bool
  /-- the per-instruction cycle counter, 8 bits (R31) -/
  cyc : Byte
  /-- lifecycle state (R36) -/
  run : Run
  /-- Paused, IsPaused (R34) -/
  paused : Bool
  /-- DebugRequested (R35) -/
  dbg : Bool
  /-- the Memory, held by reference; here its content (R50, R51) -/
  mem : Memory
  /-- the model's own: which agent moves next; once it is empty the stream moves -/
  agenda : List Move
  /-- the model's own: what the caller has been told of each request, in the order in which they took effect -/
  replies : List Reply
  /-- the model's own: how many free values have been drawn -/
  free : Nat
deriving DecidableEq, Repr

/-- The model-side stops of R181, the closed list. The hardware raises nothing. -/
inductive Fault where
  /-- Raised by `inc16` at 0xFFFF where PC_OVERFLOW = fault (R27). Safe. Never with the values this spec takes. -/
  | pcOverflow
  /-- Raised by `indexedAbsolute` past 0xFFFF where EA_OVERFLOW = fault (R106). Safe. Never with the values taken. -/
  | eaOverflow
  /-- Raised by `memRead` at or above a MEMORY_LIMIT below 65536 (R53, U3). Safe. Never with the values taken. -/
  | outOfRange
  /-- Raised by `memRead`, `perform` and the observation in `Unreset`, where no state has a value (R39, U5). Safe. -/
  | readBeforeReset
deriving DecidableEq, Repr

/-- The reasons the model answers nothing. -/
inductive Refusal where
  /-- The dispatch's own: an instruction without a meaning. No arm of `exec` answers it. Safe. -/
  | notModelled (mnemonic : String)
  /-- Raised by `execute` if the bytes fetched ended before the instruction; the fetch reads as many bytes as byte 0 asks
  for (R82), so it is never raised. Safe. -/
  | truncated
  /-- Raised by `observe`: a consistent snapshot while Running, which the spec does not offer (R164, D29);
  `observeField` reads one field instead. Safe. -/
  | snapshotWhileRunning
  /-- Raised by `observe` and `observeField`: the observation surface after dispose (R163, D20). Safe. -/
  | observedAfterDispose
deriving DecidableEq, Repr

/-- The machine right after `reset` (R40, R200): with the empty image every cell of the Memory is 0x00 (R62), so nothing
is listed. The last three fields are the model's own (DESIGN CHOICE, log entries 5, 6, 7). -/
def State.reset : State where
  pc := 0x0100
  sp := 0x0000
  a := 0x00
  x := 0x00
  y := 0x00
  flagC := false
  flagZ := false
  flagI := false
  flagD := false
  flagB := false
  flagV := false
  flagN := false
  cyc := 0
  run := .stopped
  paused := false
  dbg := false
  mem := []
  agenda := []
  replies := []
  free := 0

end Sys2Proof.Machine
end

