-- ==== Sys2Proof/Machine/Ops.lean ====
section
/-!
DEFINITION. The named operations over memory and registers: the parameter values taken (R9), the Memory and its image load
(R50 to R62), MemRead and MemWrite (spec/00_scope.md section 5), inc16 (R27), the register accessors, and the fetch of an
instruction's bytes (R80). CORE has no exception: nothing here saves a pc or a status, since no event does (R180, R185,
R186).
-/

namespace Sys2Proof.Machine

/-- The values this spec takes for the parameters of R9 (decisions D4 to D7; log entries 2 and 3). -/
def params : Config.Params where
  pcOverflow := .wrap
  eaOverflow := .wrap
  absAddrFetch := .perByte
  memoryLimit := 65536

/-- What an unlisted address reads as: 0x00, the padding of the image load (R61). -/
def Memory.unlisted : Byte := 0x00

/-- The byte at an address. -/
def Memory.read : Memory → Nat → Byte
  | [], _ => Memory.unlisted
  | (k, b) :: m, a => if k = a then b else Memory.read m a

/-- The cell `(a, v)` in front of `m`, left out where it says what an unlisted address reads as. -/
def Memory.listed (a : Nat) (v : Byte) (m : Memory) : Memory :=
  if v = Memory.unlisted then m else (a, v) :: m

/-- `mem[a] <- v`, keeping the canonical form. -/
def Memory.write : Memory → Nat → Byte → Memory
  | [], a, v => Memory.listed a v []
  | (k, b) :: m, a, v =>
    if a < k then Memory.listed a v ((k, b) :: m)
    else if a = k then Memory.listed a v m
    else (k, b) :: Memory.write m a v

/-- The canonical form from address `lo` on: addresses strictly rising from `lo` and below 65536, no cell that reads as an
unlisted one. -/
def Memory.wfFrom (lo : Nat) : Memory → Bool
  | [] => true
  | (k, b) :: m => decide (lo ≤ k) && decide (k < 65536) && decide (b ≠ Memory.unlisted) && Memory.wfFrom (k + 1) m

/-- The canonical form of a Memory. -/
def Memory.wf (m : Memory) : Bool := Memory.wfFrom 0 m

/-- The Memory that holds `bytes` at the addresses from `base` on and 0x00 elsewhere (R61). -/
def Memory.place (base : Nat) : List Byte → Memory
  | [] => []
  | b :: bytes => Memory.listed base b (Memory.place (base + 1) bytes)

/-- The image load of `reset` (R61): a short image goes behind a synthesized zero page, a longer one to address 0, and one
that cannot fit is the configuration error (`none`). -/
def padImage (limit : Nat) (image : List Byte) : Option Memory :=
  if image.length < limit - 255 then some (Memory.place 256 image)
  else if image.length ≤ limit then some (Memory.place 0 image)
  else none

/-- The byte `mem[addr]` without the checks of `memRead`: what a statement reads a state's memory with. -/
def State.read (s : State) (addr : Word) : Byte := s.mem.read addr.toNat

/-- MemRead(addr, 1) (R54): the byte at a 16-bit address. It faults in `Unreset` (R39) and at or above a MEMORY_LIMIT
smaller than 65536 (R53). -/
def memRead (P : Config.Params) (s : State) (addr : Word) : Except Fault Byte :=
  if s.run = .unreset then .error .readBeforeReset
  else if addr.toNat < P.memoryLimit then .ok (s.read addr)
  else .error .outOfRange

/-- MemWrite(addr, 1, v) (R56): defined, and used by no instruction. -/
def memWrite (s : State) (addr : Word) (v : Byte) : State :=
  { s with mem := s.mem.write addr.toNat v }

/-- inc16 (spec/00_scope.md section 5, R27). -/
def inc16 (p : Config.Overflow) (v : Word) : Except Fault Word :=
  match p with
  | .wrap => .ok (v + 1)
  | .fault => if v = 0xFFFF then .error .pcOverflow else .ok (v + 1)

/-- The register read `x[i]` (R20). -/
def State.reg (s : State) : Reg → Byte
  | .A => s.a
  | .X => s.x
  | .Y => s.y

/-- `pc <- v`. -/
def State.setPc (s : State) (v : Word) : State := { s with pc := v }

/-- `cyc <- v`. -/
def State.setCyc (s : State) (v : Byte) : State := { s with cyc := v }

/-- `x[A] <- v`. -/
def State.setA (s : State) (v : Byte) : State := { s with a := v }

/-- `flag.Z <- v`. -/
def State.setZ (s : State) (v : Bool) : State := { s with flagZ := v }

/-- `flag.N <- v`. -/
def State.setN (s : State) (v : Bool) : State := { s with flagN := v }

/-- A waiting debugToggle completes when `paused` is the value it waits for; every other reply stays (R160). -/
def Reply.settle (paused : Bool) (r : Reply) : Reply := if r = .awaiting paused then .done else r

/-- `paused <- v`, which completes every debugToggle that waits for `v` (R160). -/
def State.setPaused (s : State) (v : Bool) : State :=
  { s with paused := v, replies := s.replies.map (Reply.settle v) }

/-- The reply to the request that takes effect, beside those to the requests before it (R150 (a)). -/
def State.answer (s : State) (r : Reply) : State := { s with replies := s.replies ++ [r] }

/-- The `n` bytes from address `p` on, in ascending address order modulo 65536 (R55, R80). -/
def fetchBytes (P : Config.Params) (s : State) : Word → Nat → Except Fault (List Byte)
  | _, 0 => .ok []
  | p, n + 1 =>
    match memRead P s p with
    | .error e => .error e
    | .ok b =>
      match fetchBytes P s (p + 1) n with
      | .error e => .error e
      | .ok bs => .ok (b :: bs)

/-- The bytes of the instruction at `pc`: byte 0 says how many (R80, R82). -/
def fetch (P : Config.Params) (s : State) : Except Fault (List Byte) :=
  match memRead P s s.pc with
  | .error e => .error e
  | .ok op => fetchBytes P s s.pc (lengthOf op)

/-- The bytes stored from address `p` on, modulo 65536: for placing an instruction where the fetch reads it. -/
def storeBytes (s : State) (p : Word) : List Byte → State
  | [] => s
  | b :: bs => storeBytes (memWrite s p b) (p + 1) bs

end Sys2Proof.Machine
end

