-- ==== Sys2Proof/Machine/Lifecycle.lean ====
section
/-!
DEFINITION. The caller's requests (spec/50_execution_control.md R151 to R163), each taking effect between two instructions
(R101), the power-on state (R152), and the launch liberty of a test harness (R167).
-/

namespace Sys2Proof.Machine

/-- A stream is active (R153). -/
def State.active (s : State) : Bool := decide (s.run = .running) || decide (s.run = .paused)

/-- The stream has been cancelled and has terminated, at an instruction boundary; a parked stream clears `paused` on its
exit (R159). -/
def stopStream (s : State) : State :=
  { s.setPaused false with run := if s.active then .stopped else s.run }

/-- The registers, flags, `cyc` and memory lose their values: each becomes a free value (R153 last paragraph, U12). -/
def unspecify (s : State) : State :=
  { s with
    pc := Config.freeWord s.free
    sp := Config.freeWord (s.free + 1)
    a := Config.freeByte s.free
    x := Config.freeByte (s.free + 1)
    y := Config.freeByte (s.free + 2)
    cyc := Config.freeByte (s.free + 3)
    flagC := Config.freeFlag s.free
    flagZ := Config.freeFlag (s.free + 1)
    flagI := Config.freeFlag (s.free + 2)
    flagD := Config.freeFlag (s.free + 3)
    flagB := Config.freeFlag (s.free + 4)
    flagV := Config.freeFlag (s.free + 5)
    flagN := Config.freeFlag (s.free + 6)
    mem := Memory.place 0 ((Config.freeImage s.free).take 65536)
    free := s.free + 7 }

/-- Power-on (R152): `run`, `paused` and `dbg` are defined, everything else is not (R39). -/
def State.powerOn : State := unspecify { State.reset with run := .unreset }

/-- The reset state with memory `m`; `dbg` is not changed (R153, R200). -/
def installReset (m : Memory) (s : State) : State :=
  { State.reset with mem := m, dbg := s.dbg, agenda := s.agenda, replies := s.replies, free := s.free }

/-- `reset(image)` (R153): stop the stream, then check the size, then install the reset state; without effect after dispose
(R163). -/
def serveReset (image : List Byte) (s : State) : State :=
  if s.run = .disposed then s.answer .done
  else
    match padImage params.memoryLimit image with
    | some m => (installReset m (stopStream s)).answer .done
    | none => (unspecify (stopStream s)).answer .configError

/-- `start()` (R154): accepted when Stopped, rejected in every other state (R162). -/
def serveStart (s : State) : State :=
  if s.run = .stopped then { s.answer .done with run := .running } else s.answer .done

/-- `debugToggle()` (R160): inverts `dbg`; complete at once unless an active stream has yet to follow. -/
def serveDebugToggle (s : State) : State :=
  if s.run = .disposed then s.answer .done
  else if s.active && (s.paused != !s.dbg) then { s.answer (.awaiting (!s.dbg)) with dbg := !s.dbg }
  else { s.answer .done with dbg := !s.dbg }

/-- `dispose()` (R161): stop the stream if there is one, then Disposed; nothing more when already Disposed. -/
def serveDispose (s : State) : State :=
  if s.run = .disposed then s.answer .done
  else { (stopStream s).answer .done with run := .disposed }

/-- A request takes effect. -/
def serve (r : Request) (s : State) : State :=
  match r with
  | .reset image => serveReset image s
  | .start => serveStart s
  | .debugToggle => serveDebugToggle s
  | .dispose => serveDispose s

/-- The launch liberty of a test harness (R167, D27), no request of the hardware: X, Y and sp replaced while Stopped. -/
def launchWith (x y : Byte) (sp : Word) (s : State) : State :=
  if s.run = .stopped then { s with x := x, y := y, sp := sp } else s

end Sys2Proof.Machine
end

