-- ==== Sys2Proof/Machine/Flags.lean ====
section
/-!
DEFINITION. The flag computations (R29, R120): zero and negative of a loaded byte. No instruction computes C, I, D, B or V
(R30).
-/

namespace Sys2Proof.Machine

/-- `flag.Z <- bool(v = 0)` (R29). -/
def zeroFlag (v : Byte) : Bool := v == 0

/-- `flag.N <- v[7]` (R29). -/
def negativeFlag (v : Byte) : Bool := v.getLsbD 7

end Sys2Proof.Machine
end

