-- ==== Sys2Proof/Machine/Operands.lean ====
section
/-!
DEFINITION. Operand assembly and the effective addresses of the five modes (R83, R102 to R106), and the addresses an
instruction reads (R108).
-/

namespace Sys2Proof.Machine

/-- zext_16 (spec/00_scope.md section 5). -/
def zext16 (v : Byte) : Word := v.setWidth 16

/-- The address of zero-page + index: an 8-bit sum, its carry discarded (R83 (c), R104). -/
def indexedZeroPage (zp idx : Byte) : Word := zext16 (zp + idx)

/-- The address of absolute + index: a 16-bit sum, with EA_OVERFLOW past 0xFFFF (R83 (e), R106). -/
def indexedAbsolute (p : Config.Overflow) (base : Word) (idx : Byte) : Except Fault Word :=
  match p with
  | .wrap => .ok (base + zext16 idx)
  | .fault => if base.toNat + idx.toNat ≤ 0xFFFF then .ok (base + zext16 idx) else .error .eaOverflow

/-- Where an operand's value stands: in the instruction, or in memory. -/
inductive Source where
  | value (v : Byte)
  | address (ea : Word)
deriving DecidableEq, Repr

/-- The source of an operand form (R83). -/
def locate (P : Config.Params) (s : State) : Operand → Except Fault Source
  | .immediate imm => .ok (.value imm)
  | .zeroPage zp => .ok (.address (zext16 zp))
  | .zeroPageIndexed zp i => .ok (.address (indexedZeroPage zp (s.reg i)))
  | .absolute abs => .ok (.address abs)
  | .absoluteIndexed abs i =>
    match indexedAbsolute P.eaOverflow abs (s.reg i) with
    | .ok ea => .ok (.address ea)
    | .error e => .error e

/-- The 8-bit operand value `v` a resolver procedure returns (R102 to R106). -/
def operandValue (P : Config.Params) (s : State) (f : Operand) : Except Fault Byte :=
  match locate P s f with
  | .ok (.value v) => .ok v
  | .ok (.address ea) => memRead P s ea
  | .error e => .error e

/-- The addresses of `n` consecutive bytes from `p` on, modulo 65536. -/
def addressesFrom : Word → Nat → List Word
  | _, 0 => []
  | p, n + 1 => p :: addressesFrom (p + 1) n

/-- The address of an operand's data read, if it has one. -/
def dataAddress (P : Config.Params) (s : State) (f : Operand) : List Word :=
  match locate P s f with
  | .ok (.address ea) => [ea]
  | _ => []

/-- The addresses one instruction reads, in order: its own bytes, then its data (R108). -/
def readSequence (i : Instr) (s : State) : List Word :=
  addressesFrom s.pc i.length ++
    match i.operand? with
    | some f => dataAddress params s f
    | none => []

end Sys2Proof.Machine
end

