-- ==== Sys2Proof/Machine/Micro.lean ====
section
/-!
DEFINITION. One `execute()` as the sequence of assignments its pseudocode writes (R100, R102 to R106, R120): the shared
operation `perform` behind every instruction's meaning, and the intermediate states an observer may see (R164).
-/

namespace Sys2Proof.Machine

/-- One assignment of the pseudocode. -/
inductive Micro where
  /-- `cyc <- 0` -/
  | clearCyc
  /-- `pc <- inc16(pc)` -/
  | advancePc
  /-- `cyc <- cyc + 1` -/
  | charge
  /-- `v <-` the value of the operand -/
  | readValue (f : Operand)
  /-- `x[A] <- v` -/
  | writeA
  /-- `flag.Z <- bool(v = 0)` -/
  | writeZ
  /-- `flag.N <- v[7]` -/
  | writeN
deriving DecidableEq, Repr

/-- The state inside one `execute()` with the transient value `v`, which does not outlive the call (R38). -/
structure Latch where
  state : State
  value : Byte
deriving DecidableEq, Repr

/-- The effect of one assignment. -/
def Micro.apply (P : Config.Params) (m : Micro) (l : Latch) : Except Fault Latch :=
  match m with
  | .clearCyc => .ok { l with state := l.state.setCyc 0 }
  | .advancePc =>
    match inc16 P.pcOverflow l.state.pc with
    | .ok v => .ok { l with state := l.state.setPc v }
    | .error e => .error e
  | .charge => .ok { l with state := l.state.setCyc (l.state.cyc + 1) }
  | .readValue f =>
    match operandValue P l.state f with
    | .ok v => .ok { l with value := v }
    | .error e => .error e
  | .writeA => .ok { l with state := l.state.setA l.value }
  | .writeZ => .ok { l with state := l.state.setZ (zeroFlag l.value) }
  | .writeN => .ok { l with state := l.state.setN (negativeFlag l.value) }

/-- Steps 1 and 2 of `execute()`: zero `cyc`, fetch the opcode, increment `pc`, charge the fetch (R100). -/
def opcodeFetch : List Micro := [.clearCyc, .advancePc, .charge]

/-- The fetch of the two address bytes of the absolute modes: ABS_ADDR_FETCH_CYCLES increments, and where they are two,
one after each byte (R105). -/
def addressFetch (c : Config.AddrFetch) : List Micro :=
  match c with
  | .perByte => [.advancePc, .charge, .advancePc, .charge]
  | .perPair => [.advancePc, .advancePc, .charge]

/-- The resolver procedures (R102 to R106). Zero-page + index charges the read of the index register, absolute + index
does not (conflict C3). -/
def resolve (P : Config.Params) (f : Operand) : List Micro :=
  match f with
  | .immediate _ => [.readValue f, .advancePc, .charge]
  | .zeroPage _ => [.advancePc, .charge, .readValue f, .charge]
  | .zeroPageIndexed _ _ => [.advancePc, .charge, .charge, .readValue f, .charge]
  | .absolute _ => addressFetch P.absAddrFetch ++ [.readValue f, .charge]
  | .absoluteIndexed _ _ => addressFetch P.absAddrFetch ++ [.readValue f, .charge]

/-- LoadA(v) (R120). -/
def loadA : List Micro := [.writeA, .writeZ, .writeN]

/-- The assignments of a load-accumulator instruction (R121 to R125). -/
def loadProgram (P : Config.Params) (f : Operand) : List Micro := opcodeFetch ++ resolve P f ++ loadA

/-- The assignments of an instruction: those of a load where it carries an operand, the opcode fetch alone where the
opcode is unmapped (R100, R140). -/
def program (P : Config.Params) (i : Instr) : List Micro :=
  match i.operand? with
  | some f => loadProgram P f
  | none => opcodeFetch

/-- The assignments one after the other. -/
def runMicros (P : Config.Params) : List Micro → Latch → Except Fault Latch
  | [], l => .ok l
  | m :: ms, l =>
    match m.apply P l with
    | .ok l' => runMicros P ms l'
    | .error e => .error e

/-- The states the assignments pass through, the first after the first assignment. -/
def traceMicros (P : Config.Params) : List Micro → Latch → List State
  | [], _ => []
  | m :: ms, l =>
    match m.apply P l with
    | .ok l' => l'.state :: traceMicros P ms l'
    | .error _ => []

/-- The latch at the start of `execute()`: the transient value is written before it is read, so the 0 is read by nothing. -/
def Latch.start (s : State) : Latch := { state := s, value := 0 }

/-- One instruction: its assignments from a state whose registers have a value (R39, R100). -/
def perform (P : Config.Params) (prog : List Micro) (s : State) : Host.Outcome State Fault Refusal :=
  if s.run = .unreset then .fault .readBeforeReset
  else
    match runMicros P prog (Latch.start s) with
    | .ok l => .next l.state
    | .error e => .fault e

/-- A load-accumulator instruction with operand `f` (R121 to R125). -/
def loadAccumulator (f : Operand) (s : State) : Host.Outcome State Fault Refusal :=
  perform params (loadProgram params f) s

/-- An unmapped opcode: the opcode fetch and nothing else (R140). -/
def noOperation (s : State) : Host.Outcome State Fault Refusal :=
  perform params opcodeFetch s

end Sys2Proof.Machine
end

