-- ==== Sys2Proof/Machine/LoadAccumulator.lean ====
section
/-!
DEFINITION. The meanings of the load-accumulator family (spec/41_load_accumulator.md).
-/

namespace Sys2Proof.Machine

/-- LDA #imm (R121). -/
def execLdaImm (imm : Byte) (s : State) : Host.Outcome State Fault Refusal :=
  loadAccumulator (.immediate imm) s

/-- LDA zp (R122). -/
def execLdaZp (zp : Byte) (s : State) : Host.Outcome State Fault Refusal :=
  loadAccumulator (.zeroPage zp) s

/-- LDA zp,X (R123). -/
def execLdaZpX (zp : Byte) (s : State) : Host.Outcome State Fault Refusal :=
  loadAccumulator (.zeroPageIndexed zp .X) s

/-- LDA abs (R124). -/
def execLdaAbs (abs : Word) (s : State) : Host.Outcome State Fault Refusal :=
  loadAccumulator (.absolute abs) s

/-- LDA abs,X (R125). -/
def execLdaAbsX (abs : Word) (s : State) : Host.Outcome State Fault Refusal :=
  loadAccumulator (.absoluteIndexed abs .X) s

end Sys2Proof.Machine
end

