-- ==== Sys2Proof/Machine/Unmapped.lean ====
section
/-!
DEFINITION. The meanings of the 251 unmapped opcodes (spec/42_unmapped_opcodes.md R140): each the one-byte no-op.
-/

namespace Sys2Proof.Machine

/-- Opcode byte 0x00, unmapped (R140). -/
def execUnmapped00 (s : State) : Host.Outcome State Fault Refusal := noOperation s

/-- Opcode byte 0x01, unmapped (R140). -/
def execUnmapped01 (s : State) : Host.Outcome State Fault Refusal := noOperation s

/-- Opcode byte 0x02, unmapped (R140). -/
def execUnmapped02 (s : State) : Host.Outcome State Fault Refusal := noOperation s

/-- Opcode byte 0x03, unmapped (R140). -/
def execUnmapped03 (s : State) : Host.Outcome State Fault Refusal := noOperation s

/-- Opcode byte 0x04, unmapped (R140). -/
def execUnmapped04 (s : State) : Host.Outcome State Fault Refusal := noOperation s

/-- Opcode byte 0x05, unmapped (R140). -/
def execUnmapped05 (s : State) : Host.Outcome State Fault Refusal := noOperation s

/-- Opcode byte 0x06, unmapped (R140). -/
def execUnmapped06 (s : State) : Host.Outcome State Fault Refusal := noOperation s

/-- Opcode byte 0x07, unmapped (R140). -/
def execUnmapped07 (s : State) : Host.Outcome State Fault Refusal := noOperation s

/-- Opcode byte 0x08, unmapped (R140). -/
def execUnmapped08 (s : State) : Host.Outcome State Fault Refusal := noOperation s

/-- Opcode byte 0x09, unmapped (R140). -/
def execUnmapped09 (s : State) : Host.Outcome State Fault Refusal := noOperation s

/-- Opcode byte 0x0A, unmapped (R140). -/
def execUnmapped0A (s : State) : Host.Outcome State Fault Refusal := noOperation s

/-- Opcode byte 0x0B, unmapped (R140). -/
def execUnmapped0B (s : State) : Host.Outcome State Fault Refusal := noOperation s

/-- Opcode byte 0x0C, unmapped (R140). -/
def execUnmapped0C (s : State) : Host.Outcome State Fault Refusal := noOperation s

/-- Opcode byte 0x0D, unmapped (R140). -/
def execUnmapped0D (s : State) : Host.Outcome State Fault Refusal := noOperation s

/-- Opcode byte 0x0E, unmapped (R140). -/
def execUnmapped0E (s : State) : Host.Outcome State Fault Refusal := noOperation s

/-- Opcode byte 0x0F, unmapped (R140). -/
def execUnmapped0F (s : State) : Host.Outcome State Fault Refusal := noOperation s

/-- Opcode byte 0x10, unmapped (R140). -/
def execUnmapped10 (s : State) : Host.Outcome State Fault Refusal := noOperation s

/-- Opcode byte 0x11, unmapped (R140). -/
def execUnmapped11 (s : State) : Host.Outcome State Fault Refusal := noOperation s

/-- Opcode byte 0x12, unmapped (R140). -/
def execUnmapped12 (s : State) : Host.Outcome State Fault Refusal := noOperation s

/-- Opcode byte 0x13, unmapped (R140). -/
def execUnmapped13 (s : State) : Host.Outcome State Fault Refusal := noOperation s

/-- Opcode byte 0x14, unmapped (R140). -/
def execUnmapped14 (s : State) : Host.Outcome State Fault Refusal := noOperation s

/-- Opcode byte 0x15, unmapped (R140). -/
def execUnmapped15 (s : State) : Host.Outcome State Fault Refusal := noOperation s

/-- Opcode byte 0x16, unmapped (R140). -/
def execUnmapped16 (s : State) : Host.Outcome State Fault Refusal := noOperation s

/-- Opcode byte 0x17, unmapped (R140). -/
def execUnmapped17 (s : State) : Host.Outcome State Fault Refusal := noOperation s

/-- Opcode byte 0x18, unmapped (R140). -/
def execUnmapped18 (s : State) : Host.Outcome State Fault Refusal := noOperation s

/-- Opcode byte 0x19, unmapped (R140). -/
def execUnmapped19 (s : State) : Host.Outcome State Fault Refusal := noOperation s

/-- Opcode byte 0x1A, unmapped (R140). -/
def execUnmapped1A (s : State) : Host.Outcome State Fault Refusal := noOperation s

/-- Opcode byte 0x1B, unmapped (R140). -/
def execUnmapped1B (s : State) : Host.Outcome State Fault Refusal := noOperation s

/-- Opcode byte 0x1C, unmapped (R140). -/
def execUnmapped1C (s : State) : Host.Outcome State Fault Refusal := noOperation s

/-- Opcode byte 0x1D, unmapped (R140). -/
def execUnmapped1D (s : State) : Host.Outcome State Fault Refusal := noOperation s

/-- Opcode byte 0x1E, unmapped (R140). -/
def execUnmapped1E (s : State) : Host.Outcome State Fault Refusal := noOperation s

/-- Opcode byte 0x1F, unmapped (R140). -/
def execUnmapped1F (s : State) : Host.Outcome State Fault Refusal := noOperation s

/-- Opcode byte 0x20, unmapped (R140). -/
def execUnmapped20 (s : State) : Host.Outcome State Fault Refusal := noOperation s

/-- Opcode byte 0x21, unmapped (R140). -/
def execUnmapped21 (s : State) : Host.Outcome State Fault Refusal := noOperation s

/-- Opcode byte 0x22, unmapped (R140). -/
def execUnmapped22 (s : State) : Host.Outcome State Fault Refusal := noOperation s

/-- Opcode byte 0x23, unmapped (R140). -/
def execUnmapped23 (s : State) : Host.Outcome State Fault Refusal := noOperation s

/-- Opcode byte 0x24, unmapped (R140). -/
def execUnmapped24 (s : State) : Host.Outcome State Fault Refusal := noOperation s

/-- Opcode byte 0x25, unmapped (R140). -/
def execUnmapped25 (s : State) : Host.Outcome State Fault Refusal := noOperation s

/-- Opcode byte 0x26, unmapped (R140). -/
def execUnmapped26 (s : State) : Host.Outcome State Fault Refusal := noOperation s

/-- Opcode byte 0x27, unmapped (R140). -/
def execUnmapped27 (s : State) : Host.Outcome State Fault Refusal := noOperation s

/-- Opcode byte 0x28, unmapped (R140). -/
def execUnmapped28 (s : State) : Host.Outcome State Fault Refusal := noOperation s

/-- Opcode byte 0x29, unmapped (R140). -/
def execUnmapped29 (s : State) : Host.Outcome State Fault Refusal := noOperation s

/-- Opcode byte 0x2A, unmapped (R140). -/
def execUnmapped2A (s : State) : Host.Outcome State Fault Refusal := noOperation s

/-- Opcode byte 0x2B, unmapped (R140). -/
def execUnmapped2B (s : State) : Host.Outcome State Fault Refusal := noOperation s

/-- Opcode byte 0x2C, unmapped (R140). -/
def execUnmapped2C (s : State) : Host.Outcome State Fault Refusal := noOperation s

/-- Opcode byte 0x2D, unmapped (R140). -/
def execUnmapped2D (s : State) : Host.Outcome State Fault Refusal := noOperation s

/-- Opcode byte 0x2E, unmapped (R140). -/
def execUnmapped2E (s : State) : Host.Outcome State Fault Refusal := noOperation s

/-- Opcode byte 0x2F, unmapped (R140). -/
def execUnmapped2F (s : State) : Host.Outcome State Fault Refusal := noOperation s

/-- Opcode byte 0x30, unmapped (R140). -/
def execUnmapped30 (s : State) : Host.Outcome State Fault Refusal := noOperation s

/-- Opcode byte 0x31, unmapped (R140). -/
def execUnmapped31 (s : State) : Host.Outcome State Fault Refusal := noOperation s

/-- Opcode byte 0x32, unmapped (R140). -/
def execUnmapped32 (s : State) : Host.Outcome State Fault Refusal := noOperation s

/-- Opcode byte 0x33, unmapped (R140). -/
def execUnmapped33 (s : State) : Host.Outcome State Fault Refusal := noOperation s

/-- Opcode byte 0x34, unmapped (R140). -/
def execUnmapped34 (s : State) : Host.Outcome State Fault Refusal := noOperation s

/-- Opcode byte 0x35, unmapped (R140). -/
def execUnmapped35 (s : State) : Host.Outcome State Fault Refusal := noOperation s

/-- Opcode byte 0x36, unmapped (R140). -/
def execUnmapped36 (s : State) : Host.Outcome State Fault Refusal := noOperation s

/-- Opcode byte 0x37, unmapped (R140). -/
def execUnmapped37 (s : State) : Host.Outcome State Fault Refusal := noOperation s

/-- Opcode byte 0x38, unmapped (R140). -/
def execUnmapped38 (s : State) : Host.Outcome State Fault Refusal := noOperation s

/-- Opcode byte 0x39, unmapped (R140). -/
def execUnmapped39 (s : State) : Host.Outcome State Fault Refusal := noOperation s

/-- Opcode byte 0x3A, unmapped (R140). -/
def execUnmapped3A (s : State) : Host.Outcome State Fault Refusal := noOperation s

/-- Opcode byte 0x3B, unmapped (R140). -/
def execUnmapped3B (s : State) : Host.Outcome State Fault Refusal := noOperation s

/-- Opcode byte 0x3C, unmapped (R140). -/
def execUnmapped3C (s : State) : Host.Outcome State Fault Refusal := noOperation s

/-- Opcode byte 0x3D, unmapped (R140). -/
def execUnmapped3D (s : State) : Host.Outcome State Fault Refusal := noOperation s

/-- Opcode byte 0x3E, unmapped (R140). -/
def execUnmapped3E (s : State) : Host.Outcome State Fault Refusal := noOperation s

/-- Opcode byte 0x3F, unmapped (R140). -/
def execUnmapped3F (s : State) : Host.Outcome State Fault Refusal := noOperation s

/-- Opcode byte 0x40, unmapped (R140). -/
def execUnmapped40 (s : State) : Host.Outcome State Fault Refusal := noOperation s

/-- Opcode byte 0x41, unmapped (R140). -/
def execUnmapped41 (s : State) : Host.Outcome State Fault Refusal := noOperation s

/-- Opcode byte 0x42, unmapped (R140). -/
def execUnmapped42 (s : State) : Host.Outcome State Fault Refusal := noOperation s

/-- Opcode byte 0x43, unmapped (R140). -/
def execUnmapped43 (s : State) : Host.Outcome State Fault Refusal := noOperation s

/-- Opcode byte 0x44, unmapped (R140). -/
def execUnmapped44 (s : State) : Host.Outcome State Fault Refusal := noOperation s

/-- Opcode byte 0x45, unmapped (R140). -/
def execUnmapped45 (s : State) : Host.Outcome State Fault Refusal := noOperation s

/-- Opcode byte 0x46, unmapped (R140). -/
def execUnmapped46 (s : State) : Host.Outcome State Fault Refusal := noOperation s

/-- Opcode byte 0x47, unmapped (R140). -/
def execUnmapped47 (s : State) : Host.Outcome State Fault Refusal := noOperation s

/-- Opcode byte 0x48, unmapped (R140). -/
def execUnmapped48 (s : State) : Host.Outcome State Fault Refusal := noOperation s

/-- Opcode byte 0x49, unmapped (R140). -/
def execUnmapped49 (s : State) : Host.Outcome State Fault Refusal := noOperation s

/-- Opcode byte 0x4A, unmapped (R140). -/
def execUnmapped4A (s : State) : Host.Outcome State Fault Refusal := noOperation s

/-- Opcode byte 0x4B, unmapped (R140). -/
def execUnmapped4B (s : State) : Host.Outcome State Fault Refusal := noOperation s

/-- Opcode byte 0x4C, unmapped (R140). -/
def execUnmapped4C (s : State) : Host.Outcome State Fault Refusal := noOperation s

/-- Opcode byte 0x4D, unmapped (R140). -/
def execUnmapped4D (s : State) : Host.Outcome State Fault Refusal := noOperation s

/-- Opcode byte 0x4E, unmapped (R140). -/
def execUnmapped4E (s : State) : Host.Outcome State Fault Refusal := noOperation s

/-- Opcode byte 0x4F, unmapped (R140). -/
def execUnmapped4F (s : State) : Host.Outcome State Fault Refusal := noOperation s

/-- Opcode byte 0x50, unmapped (R140). -/
def execUnmapped50 (s : State) : Host.Outcome State Fault Refusal := noOperation s

/-- Opcode byte 0x51, unmapped (R140). -/
def execUnmapped51 (s : State) : Host.Outcome State Fault Refusal := noOperation s

/-- Opcode byte 0x52, unmapped (R140). -/
def execUnmapped52 (s : State) : Host.Outcome State Fault Refusal := noOperation s

/-- Opcode byte 0x53, unmapped (R140). -/
def execUnmapped53 (s : State) : Host.Outcome State Fault Refusal := noOperation s

/-- Opcode byte 0x54, unmapped (R140). -/
def execUnmapped54 (s : State) : Host.Outcome State Fault Refusal := noOperation s

/-- Opcode byte 0x55, unmapped (R140). -/
def execUnmapped55 (s : State) : Host.Outcome State Fault Refusal := noOperation s

/-- Opcode byte 0x56, unmapped (R140). -/
def execUnmapped56 (s : State) : Host.Outcome State Fault Refusal := noOperation s

/-- Opcode byte 0x57, unmapped (R140). -/
def execUnmapped57 (s : State) : Host.Outcome State Fault Refusal := noOperation s

/-- Opcode byte 0x58, unmapped (R140). -/
def execUnmapped58 (s : State) : Host.Outcome State Fault Refusal := noOperation s

/-- Opcode byte 0x59, unmapped (R140). -/
def execUnmapped59 (s : State) : Host.Outcome State Fault Refusal := noOperation s

/-- Opcode byte 0x5A, unmapped (R140). -/
def execUnmapped5A (s : State) : Host.Outcome State Fault Refusal := noOperation s

/-- Opcode byte 0x5B, unmapped (R140). -/
def execUnmapped5B (s : State) : Host.Outcome State Fault Refusal := noOperation s

/-- Opcode byte 0x5C, unmapped (R140). -/
def execUnmapped5C (s : State) : Host.Outcome State Fault Refusal := noOperation s

/-- Opcode byte 0x5D, unmapped (R140). -/
def execUnmapped5D (s : State) : Host.Outcome State Fault Refusal := noOperation s

/-- Opcode byte 0x5E, unmapped (R140). -/
def execUnmapped5E (s : State) : Host.Outcome State Fault Refusal := noOperation s

/-- Opcode byte 0x5F, unmapped (R140). -/
def execUnmapped5F (s : State) : Host.Outcome State Fault Refusal := noOperation s

/-- Opcode byte 0x60, unmapped (R140). -/
def execUnmapped60 (s : State) : Host.Outcome State Fault Refusal := noOperation s

/-- Opcode byte 0x61, unmapped (R140). -/
def execUnmapped61 (s : State) : Host.Outcome State Fault Refusal := noOperation s

/-- Opcode byte 0x62, unmapped (R140). -/
def execUnmapped62 (s : State) : Host.Outcome State Fault Refusal := noOperation s

/-- Opcode byte 0x63, unmapped (R140). -/
def execUnmapped63 (s : State) : Host.Outcome State Fault Refusal := noOperation s

/-- Opcode byte 0x64, unmapped (R140). -/
def execUnmapped64 (s : State) : Host.Outcome State Fault Refusal := noOperation s

/-- Opcode byte 0x65, unmapped (R140). -/
def execUnmapped65 (s : State) : Host.Outcome State Fault Refusal := noOperation s

/-- Opcode byte 0x66, unmapped (R140). -/
def execUnmapped66 (s : State) : Host.Outcome State Fault Refusal := noOperation s

/-- Opcode byte 0x67, unmapped (R140). -/
def execUnmapped67 (s : State) : Host.Outcome State Fault Refusal := noOperation s

/-- Opcode byte 0x68, unmapped (R140). -/
def execUnmapped68 (s : State) : Host.Outcome State Fault Refusal := noOperation s

/-- Opcode byte 0x69, unmapped (R140). -/
def execUnmapped69 (s : State) : Host.Outcome State Fault Refusal := noOperation s

/-- Opcode byte 0x6A, unmapped (R140). -/
def execUnmapped6A (s : State) : Host.Outcome State Fault Refusal := noOperation s

/-- Opcode byte 0x6B, unmapped (R140). -/
def execUnmapped6B (s : State) : Host.Outcome State Fault Refusal := noOperation s

/-- Opcode byte 0x6C, unmapped (R140). -/
def execUnmapped6C (s : State) : Host.Outcome State Fault Refusal := noOperation s

/-- Opcode byte 0x6D, unmapped (R140). -/
def execUnmapped6D (s : State) : Host.Outcome State Fault Refusal := noOperation s

/-- Opcode byte 0x6E, unmapped (R140). -/
def execUnmapped6E (s : State) : Host.Outcome State Fault Refusal := noOperation s

/-- Opcode byte 0x6F, unmapped (R140). -/
def execUnmapped6F (s : State) : Host.Outcome State Fault Refusal := noOperation s

/-- Opcode byte 0x70, unmapped (R140). -/
def execUnmapped70 (s : State) : Host.Outcome State Fault Refusal := noOperation s

/-- Opcode byte 0x71, unmapped (R140). -/
def execUnmapped71 (s : State) : Host.Outcome State Fault Refusal := noOperation s

/-- Opcode byte 0x72, unmapped (R140). -/
def execUnmapped72 (s : State) : Host.Outcome State Fault Refusal := noOperation s

/-- Opcode byte 0x73, unmapped (R140). -/
def execUnmapped73 (s : State) : Host.Outcome State Fault Refusal := noOperation s

/-- Opcode byte 0x74, unmapped (R140). -/
def execUnmapped74 (s : State) : Host.Outcome State Fault Refusal := noOperation s

/-- Opcode byte 0x75, unmapped (R140). -/
def execUnmapped75 (s : State) : Host.Outcome State Fault Refusal := noOperation s

/-- Opcode byte 0x76, unmapped (R140). -/
def execUnmapped76 (s : State) : Host.Outcome State Fault Refusal := noOperation s

/-- Opcode byte 0x77, unmapped (R140). -/
def execUnmapped77 (s : State) : Host.Outcome State Fault Refusal := noOperation s

/-- Opcode byte 0x78, unmapped (R140). -/
def execUnmapped78 (s : State) : Host.Outcome State Fault Refusal := noOperation s

/-- Opcode byte 0x79, unmapped (R140). -/
def execUnmapped79 (s : State) : Host.Outcome State Fault Refusal := noOperation s

/-- Opcode byte 0x7A, unmapped (R140). -/
def execUnmapped7A (s : State) : Host.Outcome State Fault Refusal := noOperation s

/-- Opcode byte 0x7B, unmapped (R140). -/
def execUnmapped7B (s : State) : Host.Outcome State Fault Refusal := noOperation s

/-- Opcode byte 0x7C, unmapped (R140). -/
def execUnmapped7C (s : State) : Host.Outcome State Fault Refusal := noOperation s

/-- Opcode byte 0x7D, unmapped (R140). -/
def execUnmapped7D (s : State) : Host.Outcome State Fault Refusal := noOperation s

/-- Opcode byte 0x7E, unmapped (R140). -/
def execUnmapped7E (s : State) : Host.Outcome State Fault Refusal := noOperation s

/-- Opcode byte 0x7F, unmapped (R140). -/
def execUnmapped7F (s : State) : Host.Outcome State Fault Refusal := noOperation s

/-- Opcode byte 0x80, unmapped (R140). -/
def execUnmapped80 (s : State) : Host.Outcome State Fault Refusal := noOperation s

/-- Opcode byte 0x81, unmapped (R140). -/
def execUnmapped81 (s : State) : Host.Outcome State Fault Refusal := noOperation s

/-- Opcode byte 0x82, unmapped (R140). -/
def execUnmapped82 (s : State) : Host.Outcome State Fault Refusal := noOperation s

/-- Opcode byte 0x83, unmapped (R140). -/
def execUnmapped83 (s : State) : Host.Outcome State Fault Refusal := noOperation s

/-- Opcode byte 0x84, unmapped (R140). -/
def execUnmapped84 (s : State) : Host.Outcome State Fault Refusal := noOperation s

/-- Opcode byte 0x85, unmapped (R140). -/
def execUnmapped85 (s : State) : Host.Outcome State Fault Refusal := noOperation s

/-- Opcode byte 0x86, unmapped (R140). -/
def execUnmapped86 (s : State) : Host.Outcome State Fault Refusal := noOperation s

/-- Opcode byte 0x87, unmapped (R140). -/
def execUnmapped87 (s : State) : Host.Outcome State Fault Refusal := noOperation s

/-- Opcode byte 0x88, unmapped (R140). -/
def execUnmapped88 (s : State) : Host.Outcome State Fault Refusal := noOperation s

/-- Opcode byte 0x89, unmapped (R140). -/
def execUnmapped89 (s : State) : Host.Outcome State Fault Refusal := noOperation s

/-- Opcode byte 0x8A, unmapped (R140). -/
def execUnmapped8A (s : State) : Host.Outcome State Fault Refusal := noOperation s

/-- Opcode byte 0x8B, unmapped (R140). -/
def execUnmapped8B (s : State) : Host.Outcome State Fault Refusal := noOperation s

/-- Opcode byte 0x8C, unmapped (R140). -/
def execUnmapped8C (s : State) : Host.Outcome State Fault Refusal := noOperation s

/-- Opcode byte 0x8D, unmapped (R140). -/
def execUnmapped8D (s : State) : Host.Outcome State Fault Refusal := noOperation s

/-- Opcode byte 0x8E, unmapped (R140). -/
def execUnmapped8E (s : State) : Host.Outcome State Fault Refusal := noOperation s

/-- Opcode byte 0x8F, unmapped (R140). -/
def execUnmapped8F (s : State) : Host.Outcome State Fault Refusal := noOperation s

/-- Opcode byte 0x90, unmapped (R140). -/
def execUnmapped90 (s : State) : Host.Outcome State Fault Refusal := noOperation s

/-- Opcode byte 0x91, unmapped (R140). -/
def execUnmapped91 (s : State) : Host.Outcome State Fault Refusal := noOperation s

/-- Opcode byte 0x92, unmapped (R140). -/
def execUnmapped92 (s : State) : Host.Outcome State Fault Refusal := noOperation s

/-- Opcode byte 0x93, unmapped (R140). -/
def execUnmapped93 (s : State) : Host.Outcome State Fault Refusal := noOperation s

/-- Opcode byte 0x94, unmapped (R140). -/
def execUnmapped94 (s : State) : Host.Outcome State Fault Refusal := noOperation s

/-- Opcode byte 0x95, unmapped (R140). -/
def execUnmapped95 (s : State) : Host.Outcome State Fault Refusal := noOperation s

/-- Opcode byte 0x96, unmapped (R140). -/
def execUnmapped96 (s : State) : Host.Outcome State Fault Refusal := noOperation s

/-- Opcode byte 0x97, unmapped (R140). -/
def execUnmapped97 (s : State) : Host.Outcome State Fault Refusal := noOperation s

/-- Opcode byte 0x98, unmapped (R140). -/
def execUnmapped98 (s : State) : Host.Outcome State Fault Refusal := noOperation s

/-- Opcode byte 0x99, unmapped (R140). -/
def execUnmapped99 (s : State) : Host.Outcome State Fault Refusal := noOperation s

/-- Opcode byte 0x9A, unmapped (R140). -/
def execUnmapped9A (s : State) : Host.Outcome State Fault Refusal := noOperation s

/-- Opcode byte 0x9B, unmapped (R140). -/
def execUnmapped9B (s : State) : Host.Outcome State Fault Refusal := noOperation s

/-- Opcode byte 0x9C, unmapped (R140). -/
def execUnmapped9C (s : State) : Host.Outcome State Fault Refusal := noOperation s

/-- Opcode byte 0x9D, unmapped (R140). -/
def execUnmapped9D (s : State) : Host.Outcome State Fault Refusal := noOperation s

/-- Opcode byte 0x9E, unmapped (R140). -/
def execUnmapped9E (s : State) : Host.Outcome State Fault Refusal := noOperation s

/-- Opcode byte 0x9F, unmapped (R140). -/
def execUnmapped9F (s : State) : Host.Outcome State Fault Refusal := noOperation s

/-- Opcode byte 0xA0, unmapped (R140). -/
def execUnmappedA0 (s : State) : Host.Outcome State Fault Refusal := noOperation s

/-- Opcode byte 0xA1, unmapped (R140). -/
def execUnmappedA1 (s : State) : Host.Outcome State Fault Refusal := noOperation s

/-- Opcode byte 0xA2, unmapped (R140). -/
def execUnmappedA2 (s : State) : Host.Outcome State Fault Refusal := noOperation s

/-- Opcode byte 0xA3, unmapped (R140). -/
def execUnmappedA3 (s : State) : Host.Outcome State Fault Refusal := noOperation s

/-- Opcode byte 0xA4, unmapped (R140). -/
def execUnmappedA4 (s : State) : Host.Outcome State Fault Refusal := noOperation s

/-- Opcode byte 0xA6, unmapped (R140). -/
def execUnmappedA6 (s : State) : Host.Outcome State Fault Refusal := noOperation s

/-- Opcode byte 0xA7, unmapped (R140). -/
def execUnmappedA7 (s : State) : Host.Outcome State Fault Refusal := noOperation s

/-- Opcode byte 0xA8, unmapped (R140). -/
def execUnmappedA8 (s : State) : Host.Outcome State Fault Refusal := noOperation s

/-- Opcode byte 0xAA, unmapped (R140). -/
def execUnmappedAA (s : State) : Host.Outcome State Fault Refusal := noOperation s

/-- Opcode byte 0xAB, unmapped (R140). -/
def execUnmappedAB (s : State) : Host.Outcome State Fault Refusal := noOperation s

/-- Opcode byte 0xAC, unmapped (R140). -/
def execUnmappedAC (s : State) : Host.Outcome State Fault Refusal := noOperation s

/-- Opcode byte 0xAE, unmapped (R140). -/
def execUnmappedAE (s : State) : Host.Outcome State Fault Refusal := noOperation s

/-- Opcode byte 0xAF, unmapped (R140). -/
def execUnmappedAF (s : State) : Host.Outcome State Fault Refusal := noOperation s

/-- Opcode byte 0xB0, unmapped (R140). -/
def execUnmappedB0 (s : State) : Host.Outcome State Fault Refusal := noOperation s

/-- Opcode byte 0xB1, unmapped (R140). -/
def execUnmappedB1 (s : State) : Host.Outcome State Fault Refusal := noOperation s

/-- Opcode byte 0xB2, unmapped (R140). -/
def execUnmappedB2 (s : State) : Host.Outcome State Fault Refusal := noOperation s

/-- Opcode byte 0xB3, unmapped (R140). -/
def execUnmappedB3 (s : State) : Host.Outcome State Fault Refusal := noOperation s

/-- Opcode byte 0xB4, unmapped (R140). -/
def execUnmappedB4 (s : State) : Host.Outcome State Fault Refusal := noOperation s

/-- Opcode byte 0xB6, unmapped (R140). -/
def execUnmappedB6 (s : State) : Host.Outcome State Fault Refusal := noOperation s

/-- Opcode byte 0xB7, unmapped (R140). -/
def execUnmappedB7 (s : State) : Host.Outcome State Fault Refusal := noOperation s

/-- Opcode byte 0xB8, unmapped (R140). -/
def execUnmappedB8 (s : State) : Host.Outcome State Fault Refusal := noOperation s

/-- Opcode byte 0xB9, unmapped (R140). -/
def execUnmappedB9 (s : State) : Host.Outcome State Fault Refusal := noOperation s

/-- Opcode byte 0xBA, unmapped (R140). -/
def execUnmappedBA (s : State) : Host.Outcome State Fault Refusal := noOperation s

/-- Opcode byte 0xBB, unmapped (R140). -/
def execUnmappedBB (s : State) : Host.Outcome State Fault Refusal := noOperation s

/-- Opcode byte 0xBC, unmapped (R140). -/
def execUnmappedBC (s : State) : Host.Outcome State Fault Refusal := noOperation s

/-- Opcode byte 0xBE, unmapped (R140). -/
def execUnmappedBE (s : State) : Host.Outcome State Fault Refusal := noOperation s

/-- Opcode byte 0xBF, unmapped (R140). -/
def execUnmappedBF (s : State) : Host.Outcome State Fault Refusal := noOperation s

/-- Opcode byte 0xC0, unmapped (R140). -/
def execUnmappedC0 (s : State) : Host.Outcome State Fault Refusal := noOperation s

/-- Opcode byte 0xC1, unmapped (R140). -/
def execUnmappedC1 (s : State) : Host.Outcome State Fault Refusal := noOperation s

/-- Opcode byte 0xC2, unmapped (R140). -/
def execUnmappedC2 (s : State) : Host.Outcome State Fault Refusal := noOperation s

/-- Opcode byte 0xC3, unmapped (R140). -/
def execUnmappedC3 (s : State) : Host.Outcome State Fault Refusal := noOperation s

/-- Opcode byte 0xC4, unmapped (R140). -/
def execUnmappedC4 (s : State) : Host.Outcome State Fault Refusal := noOperation s

/-- Opcode byte 0xC5, unmapped (R140). -/
def execUnmappedC5 (s : State) : Host.Outcome State Fault Refusal := noOperation s

/-- Opcode byte 0xC6, unmapped (R140). -/
def execUnmappedC6 (s : State) : Host.Outcome State Fault Refusal := noOperation s

/-- Opcode byte 0xC7, unmapped (R140). -/
def execUnmappedC7 (s : State) : Host.Outcome State Fault Refusal := noOperation s

/-- Opcode byte 0xC8, unmapped (R140). -/
def execUnmappedC8 (s : State) : Host.Outcome State Fault Refusal := noOperation s

/-- Opcode byte 0xC9, unmapped (R140). -/
def execUnmappedC9 (s : State) : Host.Outcome State Fault Refusal := noOperation s

/-- Opcode byte 0xCA, unmapped (R140). -/
def execUnmappedCA (s : State) : Host.Outcome State Fault Refusal := noOperation s

/-- Opcode byte 0xCB, unmapped (R140). -/
def execUnmappedCB (s : State) : Host.Outcome State Fault Refusal := noOperation s

/-- Opcode byte 0xCC, unmapped (R140). -/
def execUnmappedCC (s : State) : Host.Outcome State Fault Refusal := noOperation s

/-- Opcode byte 0xCD, unmapped (R140). -/
def execUnmappedCD (s : State) : Host.Outcome State Fault Refusal := noOperation s

/-- Opcode byte 0xCE, unmapped (R140). -/
def execUnmappedCE (s : State) : Host.Outcome State Fault Refusal := noOperation s

/-- Opcode byte 0xCF, unmapped (R140). -/
def execUnmappedCF (s : State) : Host.Outcome State Fault Refusal := noOperation s

/-- Opcode byte 0xD0, unmapped (R140). -/
def execUnmappedD0 (s : State) : Host.Outcome State Fault Refusal := noOperation s

/-- Opcode byte 0xD1, unmapped (R140). -/
def execUnmappedD1 (s : State) : Host.Outcome State Fault Refusal := noOperation s

/-- Opcode byte 0xD2, unmapped (R140). -/
def execUnmappedD2 (s : State) : Host.Outcome State Fault Refusal := noOperation s

/-- Opcode byte 0xD3, unmapped (R140). -/
def execUnmappedD3 (s : State) : Host.Outcome State Fault Refusal := noOperation s

/-- Opcode byte 0xD4, unmapped (R140). -/
def execUnmappedD4 (s : State) : Host.Outcome State Fault Refusal := noOperation s

/-- Opcode byte 0xD5, unmapped (R140). -/
def execUnmappedD5 (s : State) : Host.Outcome State Fault Refusal := noOperation s

/-- Opcode byte 0xD6, unmapped (R140). -/
def execUnmappedD6 (s : State) : Host.Outcome State Fault Refusal := noOperation s

/-- Opcode byte 0xD7, unmapped (R140). -/
def execUnmappedD7 (s : State) : Host.Outcome State Fault Refusal := noOperation s

/-- Opcode byte 0xD8, unmapped (R140). -/
def execUnmappedD8 (s : State) : Host.Outcome State Fault Refusal := noOperation s

/-- Opcode byte 0xD9, unmapped (R140). -/
def execUnmappedD9 (s : State) : Host.Outcome State Fault Refusal := noOperation s

/-- Opcode byte 0xDA, unmapped (R140). -/
def execUnmappedDA (s : State) : Host.Outcome State Fault Refusal := noOperation s

/-- Opcode byte 0xDB, unmapped (R140). -/
def execUnmappedDB (s : State) : Host.Outcome State Fault Refusal := noOperation s

/-- Opcode byte 0xDC, unmapped (R140). -/
def execUnmappedDC (s : State) : Host.Outcome State Fault Refusal := noOperation s

/-- Opcode byte 0xDD, unmapped (R140). -/
def execUnmappedDD (s : State) : Host.Outcome State Fault Refusal := noOperation s

/-- Opcode byte 0xDE, unmapped (R140). -/
def execUnmappedDE (s : State) : Host.Outcome State Fault Refusal := noOperation s

/-- Opcode byte 0xDF, unmapped (R140). -/
def execUnmappedDF (s : State) : Host.Outcome State Fault Refusal := noOperation s

/-- Opcode byte 0xE0, unmapped (R140). -/
def execUnmappedE0 (s : State) : Host.Outcome State Fault Refusal := noOperation s

/-- Opcode byte 0xE1, unmapped (R140). -/
def execUnmappedE1 (s : State) : Host.Outcome State Fault Refusal := noOperation s

/-- Opcode byte 0xE2, unmapped (R140). -/
def execUnmappedE2 (s : State) : Host.Outcome State Fault Refusal := noOperation s

/-- Opcode byte 0xE3, unmapped (R140). -/
def execUnmappedE3 (s : State) : Host.Outcome State Fault Refusal := noOperation s

/-- Opcode byte 0xE4, unmapped (R140). -/
def execUnmappedE4 (s : State) : Host.Outcome State Fault Refusal := noOperation s

/-- Opcode byte 0xE5, unmapped (R140). -/
def execUnmappedE5 (s : State) : Host.Outcome State Fault Refusal := noOperation s

/-- Opcode byte 0xE6, unmapped (R140). -/
def execUnmappedE6 (s : State) : Host.Outcome State Fault Refusal := noOperation s

/-- Opcode byte 0xE7, unmapped (R140). -/
def execUnmappedE7 (s : State) : Host.Outcome State Fault Refusal := noOperation s

/-- Opcode byte 0xE8, unmapped (R140). -/
def execUnmappedE8 (s : State) : Host.Outcome State Fault Refusal := noOperation s

/-- Opcode byte 0xE9, unmapped (R140). -/
def execUnmappedE9 (s : State) : Host.Outcome State Fault Refusal := noOperation s

/-- Opcode byte 0xEA, unmapped (R140). -/
def execUnmappedEA (s : State) : Host.Outcome State Fault Refusal := noOperation s

/-- Opcode byte 0xEB, unmapped (R140). -/
def execUnmappedEB (s : State) : Host.Outcome State Fault Refusal := noOperation s

/-- Opcode byte 0xEC, unmapped (R140). -/
def execUnmappedEC (s : State) : Host.Outcome State Fault Refusal := noOperation s

/-- Opcode byte 0xED, unmapped (R140). -/
def execUnmappedED (s : State) : Host.Outcome State Fault Refusal := noOperation s

/-- Opcode byte 0xEE, unmapped (R140). -/
def execUnmappedEE (s : State) : Host.Outcome State Fault Refusal := noOperation s

/-- Opcode byte 0xEF, unmapped (R140). -/
def execUnmappedEF (s : State) : Host.Outcome State Fault Refusal := noOperation s

/-- Opcode byte 0xF0, unmapped (R140). -/
def execUnmappedF0 (s : State) : Host.Outcome State Fault Refusal := noOperation s

/-- Opcode byte 0xF1, unmapped (R140). -/
def execUnmappedF1 (s : State) : Host.Outcome State Fault Refusal := noOperation s

/-- Opcode byte 0xF2, unmapped (R140). -/
def execUnmappedF2 (s : State) : Host.Outcome State Fault Refusal := noOperation s

/-- Opcode byte 0xF3, unmapped (R140). -/
def execUnmappedF3 (s : State) : Host.Outcome State Fault Refusal := noOperation s

/-- Opcode byte 0xF4, unmapped (R140). -/
def execUnmappedF4 (s : State) : Host.Outcome State Fault Refusal := noOperation s

/-- Opcode byte 0xF5, unmapped (R140). -/
def execUnmappedF5 (s : State) : Host.Outcome State Fault Refusal := noOperation s

/-- Opcode byte 0xF6, unmapped (R140). -/
def execUnmappedF6 (s : State) : Host.Outcome State Fault Refusal := noOperation s

/-- Opcode byte 0xF7, unmapped (R140). -/
def execUnmappedF7 (s : State) : Host.Outcome State Fault Refusal := noOperation s

/-- Opcode byte 0xF8, unmapped (R140). -/
def execUnmappedF8 (s : State) : Host.Outcome State Fault Refusal := noOperation s

/-- Opcode byte 0xF9, unmapped (R140). -/
def execUnmappedF9 (s : State) : Host.Outcome State Fault Refusal := noOperation s

/-- Opcode byte 0xFA, unmapped (R140). -/
def execUnmappedFA (s : State) : Host.Outcome State Fault Refusal := noOperation s

/-- Opcode byte 0xFB, unmapped (R140). -/
def execUnmappedFB (s : State) : Host.Outcome State Fault Refusal := noOperation s

/-- Opcode byte 0xFC, unmapped (R140). -/
def execUnmappedFC (s : State) : Host.Outcome State Fault Refusal := noOperation s

/-- Opcode byte 0xFD, unmapped (R140). -/
def execUnmappedFD (s : State) : Host.Outcome State Fault Refusal := noOperation s

/-- Opcode byte 0xFE, unmapped (R140). -/
def execUnmappedFE (s : State) : Host.Outcome State Fault Refusal := noOperation s

/-- Opcode byte 0xFF, unmapped (R140). -/
def execUnmappedFF (s : State) : Host.Outcome State Fault Refusal := noOperation s

end Sys2Proof.Machine
end

