-- ==== Sys2Proof/Machine/Scheduler.lean ====
section
/-!
DEFINITION. The execution stream (spec/50_execution_control.md R155 to R158): `execute()`, the sample of the debug flag after
it, the park, and one move of the stream. The throttle wait changes no state and is not a move (R156, R212, log entry 8).
-/

namespace Sys2Proof.Machine

/-- `execute()` (R100): fetch the bytes at `pc`, decode them, run the instruction. -/
def execute (s : State) : Host.Outcome State Fault Refusal :=
  match fetch params s with
  | .error e => .fault e
  | .ok bytes =>
    match decode bytes with
    | .ok i _ => exec i s
    | .truncated => .refused .truncated

/-- The sample of the debug flag after `execute()`, and the entry into the park (R157). -/
def sampleDebug (s : State) : State :=
  if s.dbg then { s.setPaused true with run := .paused } else s

/-- The parked stream re-checks `dbg`: it stays parked while it is 1 and resumes when it is 0 (R158). -/
def recheckDebug (s : State) : State :=
  if s.dbg then s else { s.setPaused false with run := .running }

/-- One turn of the stream: `execute()`, then the sample (R155). -/
def turn (s : State) : Host.Outcome State Fault Refusal :=
  match execute s with
  | .next t => .next (sampleDebug t)
  | .fault e => .fault e
  | .refused r => .refused r

/-- One move of the stream: a turn while Running, a re-check while Paused; where no stream exists nothing moves
(R151, R152, R155). -/
def streamMove (s : State) : Host.Outcome State Fault Refusal :=
  match s.run with
  | .running => turn s
  | .paused => .next (recheckDebug s)
  | .unreset => .next s
  | .stopped => .next s
  | .disposed => .next s

end Sys2Proof.Machine
end

