-- ==== Sys2Proof/Machine/Step.lean ====
section
/-!
DEFINITION. One step of the machine: a move of one of its two agents, the caller or the stream (R10); and the placing of an
instruction where the next step fetches it.
-/

namespace Sys2Proof.Machine

/-- The move `agenda` puts next, and the state with it taken off. An empty agenda lets the stream move (log entry 6). -/
def nextMove (s : State) : Move × State :=
  match s.agenda with
  | [] => (.stream, s)
  | m :: rest => (m, { s with agenda := rest })

/-- One step: the request takes effect, or the stream moves. -/
def step (s : State) : Host.Outcome State Fault Refusal :=
  match nextMove s with
  | (.request r, s') => .next (serve r s')
  | (.stream, s') => streamMove s'

/-- `s` with the instruction whose opcode-table bits are `w` at `pc` and the stream running, so that the next step runs it:
this stands for the caller's `reset(image)` and `start()` (log entry 10). -/
def State.withFetchWord (s : State) (nbits w : Nat) : State :=
  { storeBytes s s.pc (tableBytes nbits w) with run := .running, paused := false, agenda := [] }

end Sys2Proof.Machine
end

