-- ==== Sys2Proof/Machine/Descriptor.lean ====
section
/-!
DEFINITION. The Instruction Descriptor table (R88): documentation of the five mapped instructions, read by no step.
-/

namespace Sys2Proof.Machine

/-- A row of the table. -/
structure Descriptor where
  mnemonic : String
  opcode : Byte
  length : Nat
  cycles : Nat
  operandBytes : Nat
  description : String
deriving DecidableEq, Repr

/-- The row of a mapped instruction; the table has none for an unmapped opcode (R88). -/
def descriptor : Instr → Option Descriptor
  | .ldaImm _ => some ⟨"LDA #imm", 0xA9, 2, 2, 1, "load accumulator, immediate"⟩
  | .ldaZp _ => some ⟨"LDA zp", 0xA5, 2, 3, 1, "load accumulator, zero-page"⟩
  | .ldaZpX _ => some ⟨"LDA zp,X", 0xB5, 2, 4, 1, "load accumulator, zero-page indexed by X"⟩
  | .ldaAbs _ => some ⟨"LDA abs", 0xAD, 3, 4, 2, "load accumulator, absolute"⟩
  | .ldaAbsX _ => some ⟨"LDA abs,X", 0xBD, 3, 4, 2, "load accumulator, absolute indexed by X"⟩
  | _ => none

end Sys2Proof.Machine
end

