-- ==== Sys2Proof/Machine/Observe.lean ====
section
/-!
DEFINITION. The observation surface (R150 (b), R164): a consistent snapshot while Stopped or Paused, one field at a time while
Running, where a read may fall inside an instruction. Observation changes no state.
-/

namespace Sys2Proof.Machine

/-- The fields of the observation surface (R150 (b), R169). -/
inductive Field where
  | pc | sp | a | x | y | c | z | i | d | b | v | n | cycles | isPaused
deriving DecidableEq, Repr

/-- A flag as a 16-bit number, 1 or 0. -/
def flagWord (f : Bool) : Word := if f then 1 else 0

/-- The value of a field in a state, zero-extended to 16 bits. -/
def Field.value (s : State) : Field → Word
  | .pc => s.pc
  | .sp => s.sp
  | .a => zext16 s.a
  | .x => zext16 s.x
  | .y => zext16 s.y
  | .c => flagWord s.flagC
  | .z => flagWord s.flagZ
  | .i => flagWord s.flagI
  | .d => flagWord s.flagD
  | .b => flagWord s.flagB
  | .v => flagWord s.flagV
  | .n => flagWord s.flagN
  | .cycles => zext16 s.cyc
  | .isPaused => flagWord s.paused

/-- A set of reads that belong together. -/
structure Snapshot where
  pc : Word
  sp : Word
  a : Byte
  x : Byte
  y : Byte
  c : Bool
  z : Bool
  i : Bool
  d : Bool
  b : Bool
  v : Bool
  n : Bool
  cycles : Byte
  isPaused : Bool
deriving DecidableEq, Repr

/-- The snapshot of a state. -/
def State.snapshot (s : State) : Snapshot where
  pc := s.pc
  sp := s.sp
  a := s.a
  x := s.x
  y := s.y
  c := s.flagC
  z := s.flagZ
  i := s.flagI
  d := s.flagD
  b := s.flagB
  v := s.flagV
  n := s.flagN
  cycles := s.cyc
  isPaused := s.paused

/-- A consistent observation: offered in Stopped and Paused only (R164, D29). -/
def observe (s : State) : Host.Outcome Snapshot Fault Refusal :=
  match s.run with
  | .stopped => .next s.snapshot
  | .paused => .next s.snapshot
  | .running => .refused .snapshotWhileRunning
  | .unreset => .fault .readBeforeReset
  | .disposed => .refused .observedAfterDispose

/-- The instruction at `pc`. -/
def currentInstr (s : State) : Option Instr :=
  match fetch params s with
  | .error _ => none
  | .ok bytes =>
    match decode bytes with
    | .ok i _ => some i
    | .truncated => none

/-- The states the running stream passes through from this instruction boundary to the next, both included (R164). -/
def instants (s : State) : List State :=
  s :: match currentInstr s with
    | some i => traceMicros params (program params i) (Latch.start s)
    | none => []

/-- The instant `draw` picks among those of `instants`. -/
def instantAt (draw : Nat) (s : State) : State :=
  (instants s).getD (draw % (instants s).length) s

/-- A read of one field (R164): the boundary value while Stopped or Paused; while Running the value at an instant, chosen by
the free argument `draw` (log entry 9). `paused` is defined at power-on, the other fields are not (R39). -/
def observeField (f : Field) (draw : Nat) (s : State) : Host.Outcome Word Fault Refusal :=
  match s.run with
  | .stopped => .next (f.value s)
  | .paused => .next (f.value s)
  | .running => .next (f.value (instantAt draw s))
  | .unreset => if f = .isPaused then .next (f.value s) else .fault .readBeforeReset
  | .disposed => .refused .observedAfterDispose

/-- A read of the throughput metric: any value, whatever the state (R165, U8; log entry 9). -/
def observeThroughput (draw : Nat) : Nat := Config.freeThroughput draw

end Sys2Proof.Machine
end

