-- ==== Sys2Proof/Safety.lean ====
section
/-!
DEFINITION. What a safe run is, in the terms the statements use: the invariant every step keeps, and a run that does not
stop.
-/

namespace Sys2Proof.Safety

open Sys2Proof.Machine

/-- `paused` is 1 exactly while `run = Paused` (R34). -/
abbrev PausedAgrees (s : State) : Prop := s.paused = decide (s.run = .paused)

/-- No debugToggle still waits for the value `paused` has: one whose transition has come is complete (R160). -/
abbrev TogglesAgree (s : State) : Prop := .awaiting s.paused ∉ s.replies

/-- The invariant of the machine: the memory keeps its canonical form, `paused` follows `run`, and no debugToggle waits
for what has come. -/
abbrev Inv (s : State) : Prop :=
  s.mem.wf = true ∧ PausedAgrees s ∧ TogglesAgree s

/-- The flags of the last load still describe the accumulator (R29, the invariant of the Status Register). -/
abbrev LoadedFlags (s : State) : Prop :=
  s.flagZ = (s.a == 0) ∧ s.flagN = s.a.getLsbD 7

/-- `n` steps that neither fault nor are refused. -/
abbrev RunsSafely (n : Nat) (s : State) : Prop :=
  ∃ t : State, Sys2Proof.core.run n s = .next t

end Sys2Proof.Safety
end

