-- ==== Sys2Proof/Certificates/Slice0/Obligations.lean ====
section
/-!
DEFINITION. The statements for the provers, each a Prop that formalises what spec/ says CORE does. OBLIGATIONS.json gives each
its tier, basis and citations.
-/

open Sys2Proof Sys2Proof.Machine

/-! ### The load-accumulator family and the unmapped opcodes -/

/-- LDA immediate (R121): the end state, for every operand, and for the instruction read from memory at `pc`. -/
def Obligations.LdaImmediateLoadsItsOperand : Prop :=
  (∀ (imm : Byte) (s : State), s.run ≠ .unreset →
    exec (.ldaImm imm) s =
      .next { s with pc := s.pc + 2, cyc := 2, a := imm, flagZ := imm == 0, flagN := imm.getLsbD 7 }) ∧
  (∀ s : State, s.run ≠ .unreset → s.read s.pc = opcLdaImm →
    execute s =
      .next { s with
        pc := s.pc + 2, cyc := 2, a := s.read (s.pc + 1),
        flagZ := s.read (s.pc + 1) == 0, flagN := (s.read (s.pc + 1)).getLsbD 7 })

/-- LDA zero-page (R122): the byte at the zero-extended operand. -/
def Obligations.LdaZeroPageLoadsFromZeroPage : Prop :=
  (∀ (zp : Byte) (s : State), s.run ≠ .unreset →
    exec (.ldaZp zp) s =
      .next { s with
        pc := s.pc + 2, cyc := 3, a := s.read (zp.setWidth 16),
        flagZ := s.read (zp.setWidth 16) == 0, flagN := (s.read (zp.setWidth 16)).getLsbD 7 }) ∧
  (∀ (s : State) (v : Byte), s.run ≠ .unreset → s.read s.pc = opcLdaZp →
    s.read ((s.read (s.pc + 1)).setWidth 16) = v →
    execute s = .next { s with pc := s.pc + 2, cyc := 3, a := v, flagZ := v == 0, flagN := v.getLsbD 7 })

/-- LDA zero-page+X (R123): the 8-bit sum of operand and X, its carry discarded; X is unchanged. -/
def Obligations.LdaZeroPageXWrapsInZeroPage : Prop :=
  (∀ (zp : Byte) (s : State) (v : Byte), s.run ≠ .unreset → s.read ((zp + s.x).setWidth 16) = v →
    exec (.ldaZpX zp) s =
      .next { s with pc := s.pc + 2, cyc := 4, a := v, flagZ := v == 0, flagN := v.getLsbD 7 }) ∧
  (∀ (s : State) (v : Byte), s.run ≠ .unreset → s.read s.pc = opcLdaZpX →
    s.read ((s.read (s.pc + 1) + s.x).setWidth 16) = v →
    execute s = .next { s with pc := s.pc + 2, cyc := 4, a := v, flagZ := v == 0, flagN := v.getLsbD 7 })

/-- LDA absolute (spec/41_load_accumulator.md section 2): low byte first, 4 cycles with ABS_ADDR_FETCH_CYCLES = 2. The 4 is
the spec's decision D4 (log entry 2). -/
def Obligations.LdaAbsoluteLoadsLittleEndian : Prop :=
  (∀ (abs : Word) (s : State), s.run ≠ .unreset →
    exec (.ldaAbs abs) s =
      .next { s with
        pc := s.pc + 3, cyc := 4, a := s.read abs,
        flagZ := s.read abs == 0, flagN := (s.read abs).getLsbD 7 }) ∧
  (∀ (s : State) (v : Byte), s.run ≠ .unreset → s.read s.pc = opcLdaAbs →
    s.read (s.read (s.pc + 2) ++ s.read (s.pc + 1)) = v →
    execute s = .next { s with pc := s.pc + 3, cyc := 4, a := v, flagZ := v == 0, flagN := v.getLsbD 7 })

/-- LDA absolute+X (spec/41_load_accumulator.md section 2): the 16-bit sum of operand and X modulo 65536, which is the spec's
decision D6 (log entry 3), and 4 cycles, decision D4 (log entry 2); X is unchanged. -/
def Obligations.LdaAbsoluteXAddsSixteenBits : Prop :=
  (∀ (abs : Word) (s : State) (v : Byte), s.run ≠ .unreset → s.read (abs + s.x.setWidth 16) = v →
    exec (.ldaAbsX abs) s =
      .next { s with pc := s.pc + 3, cyc := 4, a := v, flagZ := v == 0, flagN := v.getLsbD 7 }) ∧
  (∀ (s : State) (v : Byte), s.run ≠ .unreset → s.read s.pc = opcLdaAbsX →
    s.read ((s.read (s.pc + 2) ++ s.read (s.pc + 1)) + s.x.setWidth 16) = v →
    execute s = .next { s with pc := s.pc + 3, cyc := 4, a := v, flagZ := v == 0, flagN := v.getLsbD 7 })

/-- Every one of the 251 unmapped instructions, `unmapped00` to `unmappedFF`, for which `Instr.operand?` gives none (R140):
pc advances by one, cyc is 1, nothing else changes. The cyc of 1 is the spec's inference from R100 (log entry 22). -/
def Obligations.UnmappedOpcodeIsOneByteNoOp : Prop :=
  (∀ (i : Instr) (s : State), i.operand? = none → s.run ≠ .unreset →
    exec i s = .next { s with pc := s.pc + 1, cyc := 1 }) ∧
  (∀ s : State, s.run ≠ .unreset → s.read s.pc ∉ mappedOpcodes →
    execute s = .next { s with pc := s.pc + 1, cyc := 1 })

/-- LoadA(v) (R120): A, Z and N from the value, nothing else, no charge, no stop under any parameters; Z and N are never both
1, which is the spec's own inference. -/
def Obligations.LoadEffectWritesAccumulatorZeroNegative : Prop :=
  ∀ (P : Config.Params) (l : Latch),
    runMicros P loadA l =
      .ok { l with state := { l.state with
        a := l.value, flagZ := l.value == 0, flagN := l.value.getLsbD 7 } } ∧
    ¬ ((l.value == 0) = true ∧ l.value.getLsbD 7 = true)

/-- The frame of every instruction (R100, R30, R22 to R24, R56): what no instruction writes, every byte of memory among it,
and what an unmapped opcode leaves besides. -/
def Obligations.InstructionFrame : Prop :=
  ∀ (i : Instr) (s t : State), exec i s = .next t →
    (t.sp = s.sp ∧ t.x = s.x ∧ t.y = s.y) ∧
    (t.flagC = s.flagC ∧ t.flagI = s.flagI ∧ t.flagD = s.flagD ∧ t.flagB = s.flagB ∧ t.flagV = s.flagV) ∧
    (t.run = s.run ∧ t.paused = s.paused ∧ t.dbg = s.dbg) ∧
    (t.agenda = s.agenda ∧ t.replies = s.replies ∧ t.free = s.free) ∧
    t.mem = s.mem ∧ (∀ q : Word, t.read q = s.read q) ∧
    (i.operand? = none → t.a = s.a ∧ t.flagZ = s.flagZ ∧ t.flagN = s.flagN)

/-- pc advances by the length of the instruction and takes no other value (R26). -/
def Obligations.ProgramCounterAdvancesByLength : Prop :=
  (∀ (i : Instr) (s t : State), exec i s = .next t → t.pc = s.pc + BitVec.ofNat 16 i.length) ∧
  (∀ i : Instr, i.operand? = none → i.length = 1) ∧
  (∀ b : Byte, (Instr.ldaImm b).length = 2 ∧ (Instr.ldaZp b).length = 2 ∧ (Instr.ldaZpX b).length = 2) ∧
  (∀ w : Word, (Instr.ldaAbs w).length = 3 ∧ (Instr.ldaAbsX w).length = 3)

/-- The cycle totals of every instruction (spec/40_dispatch_and_addressing.md section 2, the table of cycle totals): 1 for an
unmapped opcode and 2, 3, 4, 4, 4 for the five loads. The 4 of the absolute forms is decision D4 (log entry 2), the 1 the
spec's inference. -/
def Obligations.CycleTotalsOfEveryInstruction : Prop :=
  ∀ (i : Instr) (s t : State), exec i s = .next t →
    t.cyc = match i.operand? with
      | none => 1
      | some (.immediate _) => 2
      | some (.zeroPage _) => 3
      | some (.zeroPageIndexed _ _) => 4
      | some (.absolute _) => 4
      | some (.absoluteIndexed _ _) => 4

/-- Nothing is raised (R180): every instruction completes from every state whose registers have a value, whatever its
operand, the memory and the registers, and so does `execute()`. -/
def Obligations.ExecuteRaisesNothing : Prop :=
  (∀ (i : Instr) (s : State), s.run ≠ .unreset → ∃ t, exec i s = .next t) ∧
  (∀ s : State, s.run ≠ .unreset → ∃ t, execute s = .next t)

/-- Before the first reset every instruction stops as a read of state without a value (R39). The stop is the spec's decision
D8 (log entry 11). -/
def Obligations.UnresetStateFaultsTheRead : Prop :=
  (∀ (i : Instr) (s : State), s.run = .unreset → exec i s = .fault .readBeforeReset) ∧
  (∀ s : State, s.run = .unreset → execute s = .fault .readBeforeReset)

/-- A loaded value's flags, and what changes them (R29): a load sets Z and N from the byte it loads into A, an unmapped opcode
leaves both, reset clears both, no instruction reads either, and no step but a reset ends the agreement of the two with the
byte loaded last. -/
def Obligations.ZeroAndNegativeDescribeTheLastLoad : Prop :=
  (∀ (i : Instr) (s t : State), i.operand? ≠ none → exec i s = .next t → Safety.LoadedFlags t) ∧
  (∀ (i : Instr) (s t : State), i.operand? = none → exec i s = .next t →
    t.flagZ = s.flagZ ∧ t.flagN = s.flagN) ∧
  (∀ (image : List Byte) (s : State), s.run ≠ .disposed → image.length ≤ 65536 →
    (serve (.reset image) s).flagZ = false ∧ (serve (.reset image) s).flagN = false) ∧
  (∀ (i : Instr) (s t : State) (z n : Bool), exec i s = .next t →
    exec i { s with flagZ := z, flagN := n } =
      .next (if i.operand? = none then { t with flagZ := z, flagN := n } else t)) ∧
  (∀ s t : State, (∀ image, (nextMove s).1 ≠ .request (.reset image)) → Safety.LoadedFlags s →
    step s = .next t → Safety.LoadedFlags t)

/-- What no instruction reads has no influence (R21, R23, R24, R29, R30): replacing A, Y, sp and all seven flags before an
instruction changes neither pc nor cyc nor X after it, nor, for a load, A, Z and N; what it did not write stays replaced. -/
def Obligations.UnreadStateHasNoInfluence : Prop :=
  ∀ (i : Instr) (s t : State) (sp : Word) (a y : Byte) (fc fz fi fd fb fv fn : Bool), exec i s = .next t →
    exec i { s with
        sp := sp, a := a, y := y, flagC := fc, flagZ := fz, flagI := fi, flagD := fd, flagB := fb,
        flagV := fv, flagN := fn } =
      .next { t with
        sp := sp, y := y, flagC := fc, flagI := fi, flagD := fd, flagB := fb, flagV := fv,
        a := if i.operand? = none then a else t.a,
        flagZ := if i.operand? = none then fz else t.flagZ,
        flagN := if i.operand? = none then fn else t.flagN }

/-! ### Memory and addressing -/

/-- An instruction's result rests on no memory byte outside its access sequence (R108): with another memory that agrees at
those addresses, `execute()` ends in the same state but for the memory. The sequence has at most four addresses and begins
with the bytes at pc. -/
def Obligations.ResultRestsOnTheAccessSequenceAlone : Prop :=
  ∀ (s t : State) (i : Instr) (m : Memory), currentInstr s = some i →
    (∀ q ∈ readSequence i s, m.read q.toNat = s.read q) → execute s = .next t →
    execute { s with mem := m } = .next { t with mem := m } ∧
      (readSequence i s).length ≤ 4 ∧ (readSequence i s).head? = some s.pc

/-- The addresses one instruction reads, in order, by its form (spec/40_dispatch_and_addressing.md section 2, the memory access
sequence): its own bytes from pc on, then its data; the zero-page form with index wraps modulo 256 and the absolute form with
index is a 16-bit sum, modulo 65536 by decision D6 (log entry 3). That nothing else is read is
`ResultRestsOnTheAccessSequenceAlone`. No instruction writes memory. -/
def Obligations.AccessSequenceOfEveryInstruction : Prop :=
  ∀ (s : State) (i : Instr), currentInstr s = some i →
    (readSequence i s =
      match i.operand? with
      | none => [s.pc]
      | some (.immediate _) => [s.pc, s.pc + 1]
      | some (.zeroPage _) => [s.pc, s.pc + 1, (s.read (s.pc + 1)).setWidth 16]
      | some (.zeroPageIndexed _ _) => [s.pc, s.pc + 1, (s.read (s.pc + 1) + s.x).setWidth 16]
      | some (.absolute _) => [s.pc, s.pc + 1, s.pc + 2, s.read (s.pc + 2) ++ s.read (s.pc + 1)]
      | some (.absoluteIndexed _ _) =>
        [s.pc, s.pc + 1, s.pc + 2, (s.read (s.pc + 2) ++ s.read (s.pc + 1)) + s.x.setWidth 16]) ∧
    ∀ t : State, execute s = .next t → t.mem = s.mem

/-- The effective address of both zero-page modes lies in 0x0000 to 0x00FF, whatever the operand, the index and the
parameters (R103, R104). -/
def Obligations.ZeroPageModesStayInZeroPage : Prop :=
  ∀ (P : Config.Params) (s : State) (zp : Byte) (i : Reg),
    (∃ ea, locate P s (.zeroPage zp) = .ok (.address ea) ∧ ea.toNat = zp.toNat) ∧
    (∃ ea, locate P s (.zeroPageIndexed zp i) = .ok (.address ea) ∧
      ea.toNat = (zp.toNat + (s.reg i).toNat) % 256)

/-- MemWrite (spec/00_scope.md section 5): a memory in canonical form keeps it under a write, and reads the written byte at
the address and what it held everywhere else. No rule uses MemWrite (decision D28). The canonical
form is the model's (log entry 4). -/
def Obligations.MemWriteSetsOneByte : Prop :=
  ∀ (s : State) (q : Word) (v : Byte), s.mem.wf = true →
    (memWrite s q v).mem.wf = true ∧ (memWrite s q v).read q = v ∧
      ∀ p : Word, p ≠ q → (memWrite s q v).read p = s.read p

/-- The image load (R61), for every limit of more than 256 bytes: a short image stands behind a zero page of zeros, a longer
one that fits stands at address 0, every other byte is zero and no cell is at or above the limit; a longer one is the
configuration error. -/
def Obligations.ImagePaddingLaw : Prop :=
  ∀ (limit : Nat) (image : List Byte), 256 < limit →
    (image.length < limit - 255 → ∃ m, padImage limit image = some m ∧
      (∀ a, m.read a = if a < 256 then 0 else image.getD (a - 256) 0) ∧ ∀ c ∈ m, c.1 < limit) ∧
    (limit - 255 ≤ image.length → image.length ≤ limit → ∃ m, padImage limit image = some m ∧
      (∀ a, m.read a = image.getD a 0) ∧ ∀ c ∈ m, c.1 < limit) ∧
    (limit < image.length → padImage limit image = none)

/-! ### Encoding -/

/-- Decoding and encoding are inverse, for every instruction with every operand and for every list of bytes: an encoded
instruction decodes to itself whatever follows it, and bytes that decode are the encoding of the instruction and the bytes
left over. The opcode bytes are from general knowledge (log entry 1). -/
def Obligations.DecodeAndEncodeAreInverse : Prop :=
  (∀ (i : Instr) (rest : List Byte), decode (encode i ++ rest) = .ok i rest) ∧
  (∀ (bytes rest : List Byte) (i : Instr), decode bytes = .ok i rest → bytes = encode i ++ rest)

/-- Byte 0 alone says the length (R82): 2 for three opcodes, 3 for two, 1 for the other 251, and the decoder leaves the bytes
after it. The opcode bytes are from general knowledge (log entry 1). -/
def Obligations.OpcodeAloneGivesTheLength : Prop :=
  ∀ (op b1 b2 : Byte) (rest : List Byte),
    ∃ i, decode (op :: b1 :: b2 :: rest) =
        .ok i ((op :: b1 :: b2 :: rest).drop
          (if op ∈ [0xA9, 0xA5, 0xB5] then 2 else if op ∈ [0xAD, 0xBD] then 3 else 1)) ∧
      i.length = if op ∈ [0xA9, 0xA5, 0xB5] then 2 else if op ∈ [0xAD, 0xBD] then 3 else 1

/-- No encoding is illegal (R86): the five opcode bytes are distinct, each of the 251 others is the whole encoding of an
instruction without an operand, and no other instruction has the encoding of such a one. -/
def Obligations.EveryOtherByteIsUnmapped : Prop :=
  mappedOpcodes.Nodup ∧ mappedOpcodes.length = 5 ∧
  (∀ (op : Byte) (rest : List Byte), op ∉ mappedOpcodes →
    ∃ i : Instr, i.operand? = none ∧ decode (op :: rest) = .ok i rest ∧ encode i = [op] ∧
      ∀ j : Instr, encode j = [op] → j = i)

/-- A few instruction words read as the spec's examples read them (R89, R121 to R125, R140). The opcode bytes are from
general knowledge (log entry 1). -/
def Obligations.SampleWordsDecode : Prop :=
  decode [0xA9, 0x10] = .ok (.ldaImm 0x10) [] ∧
  decode [0xA5, 0x10] = .ok (.ldaZp 0x10) [] ∧
  decode [0xB5, 0x10] = .ok (.ldaZpX 0x10) [] ∧
  decode [0xAD, 0x10, 0x01] = .ok (.ldaAbs 0x0110) [] ∧
  decode [0xBD, 0xFF, 0x01] = .ok (.ldaAbsX 0x01FF) [] ∧
  decode [0xA2, 0x05] = .ok .unmappedA2 [0x05] ∧
  decode [0xAD, 0x10] = .truncated

/-- The documentation table (R88) agrees with the machine: opcode, length, operand bytes and the cyc an instruction ends with;
exactly the unmapped opcodes have no row. The spec derives the table's values (log entry 23). -/
def Obligations.DescriptorTableAgreesWithTheMachine : Prop :=
  (∀ (i : Instr) (d : Descriptor), descriptor i = some d →
    (encode i).head? = some d.opcode ∧ (encode i).length = d.length ∧ d.length = d.operandBytes + 1 ∧
      ∀ s t : State, exec i s = .next t → t.cyc.toNat = d.cycles) ∧
  (∀ i : Instr, descriptor i = none ↔ i.operand? = none)

/-! ### A step -/

/-- When the stream moves while Running and the bytes at pc decode to `i`, the step is `exec i`, at the state with the move
taken off the agenda, followed by the sample of the debug flag. The agenda is the model's (log entry 6). -/
def Obligations.StepRunsTheDecodedInstruction : Prop :=
  ∀ (s : State) (i : Instr) (rest : List Byte), (nextMove s).1 = .stream → s.run = .running →
    decode [s.read s.pc, s.read (s.pc + 1), s.read (s.pc + 2)] = .ok i rest →
    step s =
      match exec i { s with agenda := s.agenda.tail } with
      | .next t => .next (sampleDebug t)
      | .fault e => .fault e
      | .refused r => .refused r

/-- Which agent moves: a request at the head of the agenda takes effect and no instruction runs in that step; a move of the
stream where none exists changes nothing but the agenda. The agenda is the model's (log entry 6). -/
def Obligations.RequestsActBetweenInstructions : Prop :=
  (∀ (s : State) (r : Request) (rest : List Move), s.agenda = .request r :: rest →
    step s = .next (serve r { s with agenda := rest })) ∧
  (∀ s : State, (nextMove s).1 = .stream → s.run ≠ .running → s.run ≠ .paused →
    step s = .next { s with agenda := s.agenda.tail })

/-- No step stops (spec/60_exceptions.md section 1): from every state, whatever the agenda, every number of steps ends in a
next state. The agenda is the model's (log entry 6); the parameter values are decisions D5 to D7 (log entry 3). -/
def Obligations.NoRunEverStops : Prop :=
  ∀ (n : Nat) (s : State), Safety.RunsSafely n s

/-- The stream never halts by itself: left alone by the caller it is still Running after any number of steps (R206, R12). That the
agenda says when the caller acts is the model's (log entry 6). -/
def Obligations.StreamRunsUntilTheCallerActs : Prop :=
  ∀ (n : Nat) (s : State), s.run = .running → s.dbg = false → s.agenda = [] →
    ∃ t, core.run n s = .next t ∧ t.run = .running ∧ t.dbg = false ∧ t.agenda = [] ∧ t.mem = s.mem

/-- Memory without a mapped opcode is a sled of no-ops (R141): after n steps pc has advanced by n modulo 65536, cyc is 1 and
nothing else has changed, so after 65536 steps pc is back where it was. The wrap of pc is decision D5 (log entry 3), the cyc of
1 the spec's inference (log entry 22). -/
def Obligations.UnmappedMemoryIsASledOfNoOps : Prop :=
  ∀ (n : Nat) (s : State), s.run = .running → s.dbg = false → s.agenda = [] →
    (∀ q : Word, s.read q ∉ mappedOpcodes) →
    core.run n s = .next { s with pc := s.pc + BitVec.ofNat 16 n, cyc := if n = 0 then s.cyc else 1 } ∧
    (n = 65536 → s.pc + BitVec.ofNat 16 n = s.pc)

/-- The invariant at reset: the memory in canonical form (log entry 4), `paused` as `run` says (R34), no debugToggle waiting
for what has come (R160; log entry 7). -/
def Obligations.InvariantHoldsAtReset : Prop :=
  Safety.Inv State.reset

/-- Every step keeps the invariant: the memory in canonical form (log entry 4), `paused` 1 exactly while Paused (R34, decision
D9, log entry 12), and no debugToggle waiting for the value `paused` has (R160, log entry 7). A reset
that fails and the free values it draws are among the steps. -/
def Obligations.EveryStepKeepsTheInvariant : Prop :=
  ∀ s t : State, Safety.Inv s → step s = .next t → Safety.Inv t

/-- The cycle counter never exceeds 4 (R32), at a boundary or inside an instruction, unless a reset has failed and left it
unspecified (log entry 5). The bound is the spec's inference, with decision D4 (log entry 2). -/
def Obligations.CycleCounterStaysWithinFour : Prop :=
  (∀ s t : State, (∀ image, (nextMove s).1 = .request (.reset image) → image.length ≤ 65536) →
    s.cyc.toNat ≤ 4 → step s = .next t → t.cyc.toNat ≤ 4) ∧
  (∀ s u : State, s.cyc.toNat ≤ 4 → u ∈ instants s → u.cyc.toNat ≤ 4)

/-- Only reset writes sp, X, Y, the flags C, I, D, B, V and the memory (R22 to R24, R30, R56): every other step leaves them,
and every byte of memory. -/
def Obligations.OnlyResetWritesTheInertState : Prop :=
  ∀ s t : State, (∀ image, (nextMove s).1 ≠ .request (.reset image)) → step s = .next t →
    (t.sp = s.sp ∧ t.x = s.x ∧ t.y = s.y) ∧
    (t.flagC = s.flagC ∧ t.flagI = s.flagI ∧ t.flagD = s.flagD ∧ t.flagB = s.flagB ∧ t.flagV = s.flagV) ∧
    t.mem = s.mem ∧ ∀ q : Word, t.read q = s.read q

/-- Pausing, resuming, starting, toggling and disposing change no register, flag, counter or byte (R192): every step that
neither is a reset nor runs an instruction leaves all of them. -/
def Obligations.LifecycleMovesLeaveTheProgramState : Prop :=
  ∀ s t : State, (∀ image, (nextMove s).1 ≠ .request (.reset image)) →
    ((nextMove s).1 = .stream → s.run ≠ .running) → step s = .next t →
    t = { s with run := t.run, paused := t.paused, dbg := t.dbg, agenda := s.agenda.tail, replies := t.replies }

/-! ### The lifecycle -/

/-- The transition table of `run`, request by request and for the stream's moves (R151); a reset that fails leaves Unreset or
Stopped, which is decision D19 (log entry 15), a start elsewhere than in Stopped is without effect by decision D10 (log entry
13), and dispose always ends in Disposed by decision D20 (log entry 16). -/
def Obligations.LifecycleTransitions : Prop :=
  (∀ (s : State) (image : List Byte), s.run ≠ .disposed → image.length ≤ 65536 →
    (serve (.reset image) s).run = .stopped) ∧
  (∀ (s : State) (image : List Byte), s.run ≠ .disposed → 65536 < image.length →
    (serve (.reset image) s).run = if s.run = .unreset then .unreset else .stopped) ∧
  (∀ s : State, (serve .start s).run = if s.run = .stopped then .running else s.run) ∧
  (∀ s : State, (serve .debugToggle s).run = s.run) ∧
  (∀ s : State, (serve .dispose s).run = .disposed) ∧
  (∀ (r : Request) (s : State), s.run = .disposed → (serve r s).run = .disposed) ∧
  (∀ s t : State, s.run = .running → streamMove s = .next t → t.run = if s.dbg then .paused else .running) ∧
  (∀ s t : State, s.run = .paused → streamMove s = .next t → t.run = if s.dbg then .paused else .running) ∧
  (∀ s t : State, s.run ≠ .running → s.run ≠ .paused → streamMove s = .next t → t = s)

/-- A successful reset leaves the reset state in full (R40, R200), from every state but Disposed: that `paused` is cleared and
`dbg` kept is decision D9 (log entry 12). The replies are the
model's: that a debugToggle waiting for 1 still waits after the reset has cancelled its stream is the model's choice, no rule's
(DESIGN CHOICE, log entry 7). -/
def Obligations.ResetEstablishesTheResetState : Prop :=
  ∀ (s : State) (image : List Byte), s.run ≠ .disposed → image.length ≤ 65536 →
    ∃ m, padImage 65536 image = some m ∧
      serve (.reset image) s =
        { pc := 0x0100, sp := 0x0000, a := 0x00, x := 0x00, y := 0x00,
          flagC := false, flagZ := false, flagI := false, flagD := false, flagB := false, flagV := false,
          flagN := false, cyc := 0, mem := m, run := .stopped, paused := false, dbg := s.dbg,
          agenda := s.agenda, replies := s.replies.map (Reply.settle false) ++ [.done], free := s.free }

/-- Idempotent reset (R202): a second reset with the same image gives the same state, dispose excepted, and one more
reply to the caller (log entry 7). -/
def Obligations.ResetTwiceIsResetOnce : Prop :=
  ∀ (s : State) (image : List Byte), s.run ≠ .disposed → image.length ≤ 65536 →
    serve (.reset image) (serve (.reset image) s) =
      { serve (.reset image) s with replies := (serve (.reset image) s).replies ++ [.done] }

/-- The state `State.reset` is what a reset with the empty image leaves of the power-on state, up to the count of free values
drawn (the fields `free` and `replies` are the model's, log entries 5 and 7); at power-on the machine is Unreset and neither paused nor asked to pause (R152). -/
def Obligations.PowerOnThenEmptyImageIsReset : Prop :=
  State.powerOn.run = .unreset ∧ State.powerOn.paused = false ∧ State.powerOn.dbg = false ∧
  serve (.reset []) State.powerOn = { State.reset with replies := [.done], free := State.powerOn.free }

/-- The configuration error (R183): an image longer than 65536 bytes reports it, stops the stream and leaves `dbg`; a request
reports it for no other reason. That the stream is stopped is the order of R153; what `run` then is, decision D19
(log entry 15). The report stands in the model's field `replies` (log entry 7). -/
def Obligations.OversizedImageIsTheOnlyConfigurationError : Prop :=
  (∀ (s : State) (image : List Byte), s.run ≠ .disposed → 65536 < image.length →
    (serve (.reset image) s).replies.getLast? = some .configError ∧ (serve (.reset image) s).active = false ∧
      (serve (.reset image) s).paused = false ∧ (serve (.reset image) s).dbg = s.dbg) ∧
  (∀ (s : State) (r : Request), (serve r s).replies.getLast? = some .configError →
    s.run ≠ .disposed ∧ ∃ image, r = .reset image ∧ 65536 < image.length)

/-- Where the program sits (R204, R201): after a reset and a start the stream runs from 0x0100; the first opcode of an image of
at most 65280 bytes is its byte 0 and its zero page is all zeros, that of a longer one its byte 256. -/
def Obligations.FirstOpcodeAfterResetAndStart : Prop :=
  ∀ (s : State) (image : List Byte), s.run ≠ .disposed → image.length ≤ 65536 →
    (serve .start (serve (.reset image) s)).run = .running ∧
    (serve .start (serve (.reset image) s)).pc = 0x0100 ∧
    (image.length ≤ 65280 →
      (serve .start (serve (.reset image) s)).read 0x0100 = image.getD 0 0 ∧
      ∀ q : Word, q.toNat < 256 → (serve .start (serve (.reset image) s)).read q = 0) ∧
    (65280 < image.length → (serve .start (serve (.reset image) s)).read 0x0100 = image.getD 256 0)

/-- `start()` (R154, R162): when Stopped it makes the stream run and changes nothing else but the replies (log entry 7), to which it
adds its own; in every other state it changes nothing but these. The rejection is decision D10 (log entry 13); that a start() after a dispose is done at once is
the model's choice (DESIGN CHOICE, log entry 7). -/
def Obligations.StartOnlyWhenStopped : Prop :=
  (∀ s : State, s.run = .stopped → serve .start s = { s with run := .running, replies := s.replies ++ [.done] }) ∧
  (∀ s : State, s.run ≠ .stopped → serve .start s = { s with replies := s.replies ++ [.done] })

/-- `debugToggle()` (R160): inverts `dbg`, completes at once where no stream is active (decision D11, log entry 14) or `paused`
already equals the new `dbg`, and otherwise waits for the new `dbg`; after dispose it is without effect (R163); no other
request and no move of the stream writes `dbg`. The replies are the model's field, and that a toggle after a dispose is done at once is the model's choice
(DESIGN CHOICE, log entry 7). -/
def Obligations.DebugToggleInvertsTheRequest : Prop :=
  (∀ s : State, s.run ≠ .disposed → s.active = false →
    serve .debugToggle s = { s with dbg := !s.dbg, replies := s.replies ++ [.done] }) ∧
  (∀ s : State, s.active = true →
    serve .debugToggle s =
      { s with
        dbg := !s.dbg
        replies := s.replies ++ [if s.paused = !s.dbg then .done else .awaiting (!s.dbg)] }) ∧
  (∀ s : State, s.run = .disposed → serve .debugToggle s = { s with replies := s.replies ++ [.done] }) ∧
  (∀ s t : State, step s = .next t →
    t.dbg = if (nextMove s).1 = .request .debugToggle ∧ s.run ≠ .disposed then !s.dbg else s.dbg)

/-- The completion of a waiting debugToggle (R160): whatever request or move of the stream comes next, the reply to the n-th
request stays, except that a toggle that waits for the value `paused` then has is done; a request adds one reply after all
others and a move of the stream none; and after a move of an active stream `paused` equals `dbg`, so that a toggle that waits
for `dbg` is done then. That a toggle still waits where its stream was cancelled is the model's choice (log entry 7). -/
def Obligations.WaitingTogglesCompleteWhenPausedAgrees : Prop :=
  (∀ (s t : State) (n : Nat) (q : Reply), Safety.Inv s → step s = .next t → s.replies[n]? = some q →
    t.replies[n]? = some (if q = .awaiting t.paused then .done else q)) ∧
  (∀ s t : State, step s = .next t →
    t.replies.length = s.replies.length + if (nextMove s).1 = .stream then 0 else 1) ∧
  (∀ (s t : State) (n : Nat), Safety.Inv s → s.active = true → streamMove s = .next t →
    t.paused = s.dbg ∧ (s.replies[n]? = some (.awaiting s.dbg) → t.replies[n]? = some .done))

/-- Entering the park (R157): the flag is sampled after each instruction, so a pause falls on its boundary with every
register, flag, counter and byte as the instruction left it; with `dbg` set before `start()` exactly one instruction runs
first; the parked stream changes nothing. -/
def Obligations.PauseFallsOnAnInstructionBoundary : Prop :=
  (∀ s : State, s.run = .running → ∃ t u, execute s = .next t ∧ streamMove s = .next u ∧
    u = { t with
      run := if s.dbg then .paused else .running
      paused := if s.dbg then true else t.paused
      replies := u.replies }) ∧
  (∀ s : State, s.run = .stopped → s.dbg = true →
    ∃ t u, execute (serve .start s) = .next t ∧ streamMove (serve .start s) = .next u ∧
      u = { t with run := .paused, paused := true, replies := u.replies } ∧ streamMove u = .next u) ∧
  (∀ s : State, s.run = .paused → s.dbg = true → streamMove s = .next s)

/-- Leaving the park (R158): with `dbg` back at 0 the stream is Running and not paused, nothing else but the replies changes, and
so its next turn runs the instruction at the same pc: none is run again. -/
def Obligations.ResumeRunsTheNextInstruction : Prop :=
  ∀ s : State, s.run = .paused → s.dbg = false →
    ∃ t, streamMove s = .next t ∧ t = { s with run := .running, paused := false, replies := t.replies } ∧
      currentInstr t = currentInstr s

/-- `dispose()` (R161, R163): from every state it ends Disposed and not paused and leaves registers and memory alone; it is
idempotent but for one more reply; from Disposed on every step leaves everything but the agenda and the replies. That a never-started processor is
Disposed too is decision D20 (log entry 16). The replies are the model's: that a debugToggle waiting for 1 waits on after the
dispose, and that a request after it is done at once, are the model's choices, no rule's (DESIGN CHOICE, log entry 7). -/
def Obligations.DisposeIsTerminal : Prop :=
  (∀ s : State, s.run ≠ .disposed →
    serve .dispose s =
      { s with run := .disposed, paused := false, replies := s.replies.map (Reply.settle false) ++ [.done] }) ∧
  (∀ s : State, serve .dispose (serve .dispose s) =
    { serve .dispose s with replies := (serve .dispose s).replies ++ [.done] }) ∧
  (∀ s t : State, s.run = .disposed → step s = .next t →
    t = { s with agenda := s.agenda.tail, replies := t.replies })

/-- Cancellation (R159, R153): a reset or a dispose that takes effect leaves no stream, and the very next move of the stream
then changes nothing. That `paused` returns to 0 is decision D9 (log entry 12), that a request falls between two
instructions decision D17 (log entry 24). -/
def Obligations.CancelledStreamIsGone : Prop :=
  ∀ (s : State) (r : Request), r = .dispose ∨ (∃ image, r = .reset image) →
    (serve r s).active = false ∧ (s.run ≠ .disposed → (serve r s).paused = false) ∧
      streamMove (serve r s) = .next (serve r s)

/-- The launch liberty of a test harness (R167, decision D27): X, Y and sp replaced while Stopped and nothing else; in another
state nothing (log entry 18). -/
def Obligations.LaunchLibertySetsIndexAndStackOnly : Prop :=
  (∀ (x y : Byte) (sp : Word) (s : State), s.run = .stopped →
    launchWith x y sp s = { s with x := x, y := y, sp := sp }) ∧
  (∀ (x y : Byte) (sp : Word) (s : State), s.run ≠ .stopped → launchWith x y sp s = s)

/-! ### Observation -/

/-- A consistent observation (R164) is offered while Stopped and Paused and is then the state's own fields, one by one; while
Running it is not offered, which is decision D29 (log entry 9). -/
def Obligations.SnapshotsAreConsistentWhenNothingMoves : Prop :=
  (∀ s : State, s.run = .stopped ∨ s.run = .paused →
    observe s = .next s.snapshot ∧ ∀ (f : Field) (draw : Nat), observeField f draw s = .next (f.value s)) ∧
  (∀ s : State, s.run = .running → observe s = .refused .snapshotWhileRunning)

/-- A read while Running (R164) returns a value the field held at an instant of the instruction in progress; the first instant
is the state before it, the last the state after it, and no instant differs from the first outside pc, cyc, A, Z and N. The draw is the
model's free argument (decision D29, log entry 9), the place of the charges inside an instruction that of log entry 20. -/
def Obligations.RacyReadIsAValueTheFieldHeld : Prop :=
  (∀ (s : State) (f : Field) (draw : Nat), s.run = .running →
    ∃ u ∈ instants s, observeField f draw s = .next (f.value u)) ∧
  (∀ s t : State, execute s = .next t →
    (instants s).head? = some s ∧ (instants s).getLast? = some t) ∧
  (∀ s u : State, u ∈ instants s →
    u = { s with pc := u.pc, cyc := u.cyc, a := u.a, flagZ := u.flagZ, flagN := u.flagN })

/-! ### The parameters the spec leaves open -/

/-- PC_OVERFLOW (spec/10_state.md section 3): under `wrap`, the value taken, pc goes from 0xFFFF to 0x0000; under `fault` the
increment there stops every instruction and no other increment does. Decision D5 (log entry 3). -/
def Obligations.PcOverflowWrapsOrFaults : Prop :=
  params.pcOverflow = .wrap ∧ (∀ v : Word, inc16 .wrap v = .ok (v + 1)) ∧ inc16 .wrap 0xFFFF = .ok 0x0000 ∧
  inc16 .fault 0xFFFF = .error .pcOverflow ∧ (∀ v : Word, v ≠ 0xFFFF → inc16 .fault v = .ok (v + 1)) ∧
  (∀ (P : Config.Params) (i : Instr) (s : State), P.pcOverflow = .fault → s.run ≠ .unreset → s.pc = 0xFFFF →
    perform P (program P i) s = .fault .pcOverflow)

/-- EA_OVERFLOW (spec/40_dispatch_and_addressing.md section 2): under `fault` LDA abs,X stops exactly where operand plus X
exceeds 0xFFFF and otherwise ends as it does under `wrap`. Decision D6 (log entry 3). -/
def Obligations.EaOverflowFaultsExactlyPastTheTop : Prop :=
  params.eaOverflow = .wrap ∧
  ∀ (abs : Word) (s : State), s.run ≠ .unreset →
    perform { params with eaOverflow := .fault } (loadProgram params (.absoluteIndexed abs .X)) s =
      if 0xFFFF < abs.toNat + s.x.toNat then .fault .eaOverflow else exec (.ldaAbsX abs) s

/-- ABS_ADDR_FETCH_CYCLES (spec/40_dispatch_and_addressing.md section 2): under the alternative 1 the absolute forms end with
cyc 3 and differ in nothing else. Decision D4 (log entry 2). -/
def Obligations.AddressFetchPolicyChangesOnlyTheCount : Prop :=
  params.absAddrFetch = .perByte ∧
  (∀ (abs : Word) (s t : State), exec (.ldaAbs abs) s = .next t →
    perform params (loadProgram { params with absAddrFetch := .perPair } (.absolute abs)) s =
      .next { t with cyc := 3 }) ∧
  (∀ (abs : Word) (s t : State), exec (.ldaAbsX abs) s = .next t →
    perform params (loadProgram { params with absAddrFetch := .perPair } (.absoluteIndexed abs .X)) s =
      .next { t with cyc := 3 })

/-- MEMORY_LIMIT (spec/20_memory.md section 1): with 65536, the value taken, no read in a state that has values is out of
range; with a smaller limit exactly the reads at or above it are. Decision D7 (log entry 3). -/
def Obligations.ReadsBeyondASmallerLimitFault : Prop :=
  params.memoryLimit = 65536 ∧
  (∀ (s : State) (q : Word), s.run ≠ .unreset → memRead params s q = .ok (s.read q)) ∧
  (∀ (P : Config.Params) (s : State) (q : Word), s.run ≠ .unreset → P.memoryLimit ≤ q.toNat →
    memRead P s q = .error .outOfRange) ∧
  (∀ (P : Config.Params) (s : State) (q : Word), s.run ≠ .unreset → q.toNat < P.memoryLimit →
    memRead P s q = .ok (s.read q))
end

