-- ==== Sys2Proof/Laws/Decode.lean ====
section
/-!
SUPPORT. The opcode map, row by row kind: what `rowOf` answers for the five mapped bytes and for the others.
-/

namespace Sys2Proof

@[simp] theorem rowOf_opcLdaImm : rowOf opcLdaImm = .opB .ldaImm := rfl
@[simp] theorem rowOf_opcLdaZp : rowOf opcLdaZp = .opB .ldaZp := rfl
@[simp] theorem rowOf_opcLdaZpX : rowOf opcLdaZpX = .opB .ldaZpX := rfl
@[simp] theorem rowOf_opcLdaAbs : rowOf opcLdaAbs = .opW .ldaAbs := rfl
@[simp] theorem rowOf_opcLdaAbsX : rowOf opcLdaAbsX = .opW .ldaAbsX := rfl

/-- The check of one opcode byte: it is mapped, or its row is a one-byte instruction with that byte as its encoding. -/
def rowChecked (op : Byte) : Bool :=
  mappedOpcodes.contains op ||
    match rowOf op with
    | .op i => decide (encode i = [op]) && i.operand?.isNone
    | .opB _ => false
    | .opW _ => false

theorem rowChecked_all : (List.range 256).all (fun n => rowChecked (BitVec.ofNat 8 n)) = true := by
  decide +kernel

/-- The row of a byte outside the five is a one-byte instruction without an operand, and that byte is its encoding. -/
theorem rowOf_unmapped {op : Byte} (h : op ∉ mappedOpcodes) :
    ∃ i, rowOf op = .op i ∧ encode i = [op] ∧ i.operand? = none := by
  have hc : rowChecked op = true := by
    have := List.all_eq_true.mp rowChecked_all op.toNat (List.mem_range.mpr op.isLt)
    simpa using this
  have hm : mappedOpcodes.contains op = false := by simpa using h
  unfold rowChecked at hc
  rw [hm, Bool.false_or] at hc
  split at hc
  · rename_i i hi
    simp only [Bool.and_eq_true, decide_eq_true_eq, Option.isNone_iff_eq_none] at hc
    exact ⟨i, hi, hc.1, hc.2⟩
  · cases hc
  · cases hc

/-- Every opcode byte is one of the five or selects a one-byte instruction. -/
theorem rowOf_cases (op : Byte) :
    op = opcLdaImm ∨ op = opcLdaZp ∨ op = opcLdaZpX ∨ op = opcLdaAbs ∨ op = opcLdaAbsX ∨
      ∃ i, rowOf op = .op i ∧ encode i = [op] ∧ i.operand? = none := by
  by_cases h : op ∈ mappedOpcodes
  · simp only [mappedOpcodes, List.mem_cons, List.not_mem_nil, or_false] at h
    tauto
  · exact .inr (.inr (.inr (.inr (.inr (rowOf_unmapped h)))))

/-- The two bytes of an address put together again. -/
@[simp] theorem littleEndian_bytes (w : Word) : littleEndian (lowByte w) (highByte w) = w := by
  unfold littleEndian lowByte highByte
  ext i hi
  simp only [BitVec.getElem_append, BitVec.getElem_extractLsb']
  split <;> simp_all [BitVec.getLsbD_eq_getElem]

@[simp] theorem lowByte_littleEndian (lo hi : Byte) : lowByte (littleEndian lo hi) = lo := by
  unfold littleEndian lowByte
  ext i h
  rw [BitVec.getElem_extractLsb', Nat.zero_add]
  refine (BitVec.getLsbD_append ..).trans ?_
  simp [h]

@[simp] theorem highByte_littleEndian (lo hi : Byte) : highByte (littleEndian lo hi) = hi := by
  unfold littleEndian highByte
  ext i h
  rw [BitVec.getElem_extractLsb']
  refine (BitVec.getLsbD_append ..).trans ?_
  simp [BitVec.getLsbD_eq_getElem, h]

end Sys2Proof
end

