-- ==== Sys2Proof/Laws/State.lean ====
section
/-!
SUPPORT. One lemma per field per register update: what each of the named updates of Machine/Ops.lean writes and leaves.
-/

namespace Sys2Proof.Machine

@[simp] theorem State.setPc_pc (s : State) (v : Word) : (s.setPc v).pc = v := rfl
@[simp] theorem State.setPc_sp (s : State) (v : Word) : (s.setPc v).sp = s.sp := rfl
@[simp] theorem State.setPc_a (s : State) (v : Word) : (s.setPc v).a = s.a := rfl
@[simp] theorem State.setPc_x (s : State) (v : Word) : (s.setPc v).x = s.x := rfl
@[simp] theorem State.setPc_y (s : State) (v : Word) : (s.setPc v).y = s.y := rfl
@[simp] theorem State.setPc_flagC (s : State) (v : Word) : (s.setPc v).flagC = s.flagC := rfl
@[simp] theorem State.setPc_flagZ (s : State) (v : Word) : (s.setPc v).flagZ = s.flagZ := rfl
@[simp] theorem State.setPc_flagI (s : State) (v : Word) : (s.setPc v).flagI = s.flagI := rfl
@[simp] theorem State.setPc_flagD (s : State) (v : Word) : (s.setPc v).flagD = s.flagD := rfl
@[simp] theorem State.setPc_flagB (s : State) (v : Word) : (s.setPc v).flagB = s.flagB := rfl
@[simp] theorem State.setPc_flagV (s : State) (v : Word) : (s.setPc v).flagV = s.flagV := rfl
@[simp] theorem State.setPc_flagN (s : State) (v : Word) : (s.setPc v).flagN = s.flagN := rfl
@[simp] theorem State.setPc_cyc (s : State) (v : Word) : (s.setPc v).cyc = s.cyc := rfl
@[simp] theorem State.setPc_run (s : State) (v : Word) : (s.setPc v).run = s.run := rfl
@[simp] theorem State.setPc_paused (s : State) (v : Word) : (s.setPc v).paused = s.paused := rfl
@[simp] theorem State.setPc_dbg (s : State) (v : Word) : (s.setPc v).dbg = s.dbg := rfl
@[simp] theorem State.setPc_mem (s : State) (v : Word) : (s.setPc v).mem = s.mem := rfl
@[simp] theorem State.setPc_agenda (s : State) (v : Word) : (s.setPc v).agenda = s.agenda := rfl
@[simp] theorem State.setPc_replies (s : State) (v : Word) : (s.setPc v).replies = s.replies := rfl
@[simp] theorem State.setPc_free (s : State) (v : Word) : (s.setPc v).free = s.free := rfl
@[simp] theorem State.setPc_read (s : State) (v : Word) (q : Word) : (s.setPc v).read q = s.read q := rfl

@[simp] theorem State.setCyc_pc (s : State) (v : Byte) : (s.setCyc v).pc = s.pc := rfl
@[simp] theorem State.setCyc_sp (s : State) (v : Byte) : (s.setCyc v).sp = s.sp := rfl
@[simp] theorem State.setCyc_a (s : State) (v : Byte) : (s.setCyc v).a = s.a := rfl
@[simp] theorem State.setCyc_x (s : State) (v : Byte) : (s.setCyc v).x = s.x := rfl
@[simp] theorem State.setCyc_y (s : State) (v : Byte) : (s.setCyc v).y = s.y := rfl
@[simp] theorem State.setCyc_flagC (s : State) (v : Byte) : (s.setCyc v).flagC = s.flagC := rfl
@[simp] theorem State.setCyc_flagZ (s : State) (v : Byte) : (s.setCyc v).flagZ = s.flagZ := rfl
@[simp] theorem State.setCyc_flagI (s : State) (v : Byte) : (s.setCyc v).flagI = s.flagI := rfl
@[simp] theorem State.setCyc_flagD (s : State) (v : Byte) : (s.setCyc v).flagD = s.flagD := rfl
@[simp] theorem State.setCyc_flagB (s : State) (v : Byte) : (s.setCyc v).flagB = s.flagB := rfl
@[simp] theorem State.setCyc_flagV (s : State) (v : Byte) : (s.setCyc v).flagV = s.flagV := rfl
@[simp] theorem State.setCyc_flagN (s : State) (v : Byte) : (s.setCyc v).flagN = s.flagN := rfl
@[simp] theorem State.setCyc_cyc (s : State) (v : Byte) : (s.setCyc v).cyc = v := rfl
@[simp] theorem State.setCyc_run (s : State) (v : Byte) : (s.setCyc v).run = s.run := rfl
@[simp] theorem State.setCyc_paused (s : State) (v : Byte) : (s.setCyc v).paused = s.paused := rfl
@[simp] theorem State.setCyc_dbg (s : State) (v : Byte) : (s.setCyc v).dbg = s.dbg := rfl
@[simp] theorem State.setCyc_mem (s : State) (v : Byte) : (s.setCyc v).mem = s.mem := rfl
@[simp] theorem State.setCyc_agenda (s : State) (v : Byte) : (s.setCyc v).agenda = s.agenda := rfl
@[simp] theorem State.setCyc_replies (s : State) (v : Byte) : (s.setCyc v).replies = s.replies := rfl
@[simp] theorem State.setCyc_free (s : State) (v : Byte) : (s.setCyc v).free = s.free := rfl
@[simp] theorem State.setCyc_read (s : State) (v : Byte) (q : Word) : (s.setCyc v).read q = s.read q := rfl

@[simp] theorem State.setA_pc (s : State) (v : Byte) : (s.setA v).pc = s.pc := rfl
@[simp] theorem State.setA_sp (s : State) (v : Byte) : (s.setA v).sp = s.sp := rfl
@[simp] theorem State.setA_a (s : State) (v : Byte) : (s.setA v).a = v := rfl
@[simp] theorem State.setA_x (s : State) (v : Byte) : (s.setA v).x = s.x := rfl
@[simp] theorem State.setA_y (s : State) (v : Byte) : (s.setA v).y = s.y := rfl
@[simp] theorem State.setA_flagC (s : State) (v : Byte) : (s.setA v).flagC = s.flagC := rfl
@[simp] theorem State.setA_flagZ (s : State) (v : Byte) : (s.setA v).flagZ = s.flagZ := rfl
@[simp] theorem State.setA_flagI (s : State) (v : Byte) : (s.setA v).flagI = s.flagI := rfl
@[simp] theorem State.setA_flagD (s : State) (v : Byte) : (s.setA v).flagD = s.flagD := rfl
@[simp] theorem State.setA_flagB (s : State) (v : Byte) : (s.setA v).flagB = s.flagB := rfl
@[simp] theorem State.setA_flagV (s : State) (v : Byte) : (s.setA v).flagV = s.flagV := rfl
@[simp] theorem State.setA_flagN (s : State) (v : Byte) : (s.setA v).flagN = s.flagN := rfl
@[simp] theorem State.setA_cyc (s : State) (v : Byte) : (s.setA v).cyc = s.cyc := rfl
@[simp] theorem State.setA_run (s : State) (v : Byte) : (s.setA v).run = s.run := rfl
@[simp] theorem State.setA_paused (s : State) (v : Byte) : (s.setA v).paused = s.paused := rfl
@[simp] theorem State.setA_dbg (s : State) (v : Byte) : (s.setA v).dbg = s.dbg := rfl
@[simp] theorem State.setA_mem (s : State) (v : Byte) : (s.setA v).mem = s.mem := rfl
@[simp] theorem State.setA_agenda (s : State) (v : Byte) : (s.setA v).agenda = s.agenda := rfl
@[simp] theorem State.setA_replies (s : State) (v : Byte) : (s.setA v).replies = s.replies := rfl
@[simp] theorem State.setA_free (s : State) (v : Byte) : (s.setA v).free = s.free := rfl
@[simp] theorem State.setA_read (s : State) (v : Byte) (q : Word) : (s.setA v).read q = s.read q := rfl

@[simp] theorem State.setZ_pc (s : State) (v : Bool) : (s.setZ v).pc = s.pc := rfl
@[simp] theorem State.setZ_sp (s : State) (v : Bool) : (s.setZ v).sp = s.sp := rfl
@[simp] theorem State.setZ_a (s : State) (v : Bool) : (s.setZ v).a = s.a := rfl
@[simp] theorem State.setZ_x (s : State) (v : Bool) : (s.setZ v).x = s.x := rfl
@[simp] theorem State.setZ_y (s : State) (v : Bool) : (s.setZ v).y = s.y := rfl
@[simp] theorem State.setZ_flagC (s : State) (v : Bool) : (s.setZ v).flagC = s.flagC := rfl
@[simp] theorem State.setZ_flagZ (s : State) (v : Bool) : (s.setZ v).flagZ = v := rfl
@[simp] theorem State.setZ_flagI (s : State) (v : Bool) : (s.setZ v).flagI = s.flagI := rfl
@[simp] theorem State.setZ_flagD (s : State) (v : Bool) : (s.setZ v).flagD = s.flagD := rfl
@[simp] theorem State.setZ_flagB (s : State) (v : Bool) : (s.setZ v).flagB = s.flagB := rfl
@[simp] theorem State.setZ_flagV (s : State) (v : Bool) : (s.setZ v).flagV = s.flagV := rfl
@[simp] theorem State.setZ_flagN (s : State) (v : Bool) : (s.setZ v).flagN = s.flagN := rfl
@[simp] theorem State.setZ_cyc (s : State) (v : Bool) : (s.setZ v).cyc = s.cyc := rfl
@[simp] theorem State.setZ_run (s : State) (v : Bool) : (s.setZ v).run = s.run := rfl
@[simp] theorem State.setZ_paused (s : State) (v : Bool) : (s.setZ v).paused = s.paused := rfl
@[simp] theorem State.setZ_dbg (s : State) (v : Bool) : (s.setZ v).dbg = s.dbg := rfl
@[simp] theorem State.setZ_mem (s : State) (v : Bool) : (s.setZ v).mem = s.mem := rfl
@[simp] theorem State.setZ_agenda (s : State) (v : Bool) : (s.setZ v).agenda = s.agenda := rfl
@[simp] theorem State.setZ_replies (s : State) (v : Bool) : (s.setZ v).replies = s.replies := rfl
@[simp] theorem State.setZ_free (s : State) (v : Bool) : (s.setZ v).free = s.free := rfl
@[simp] theorem State.setZ_read (s : State) (v : Bool) (q : Word) : (s.setZ v).read q = s.read q := rfl

@[simp] theorem State.setN_pc (s : State) (v : Bool) : (s.setN v).pc = s.pc := rfl
@[simp] theorem State.setN_sp (s : State) (v : Bool) : (s.setN v).sp = s.sp := rfl
@[simp] theorem State.setN_a (s : State) (v : Bool) : (s.setN v).a = s.a := rfl
@[simp] theorem State.setN_x (s : State) (v : Bool) : (s.setN v).x = s.x := rfl
@[simp] theorem State.setN_y (s : State) (v : Bool) : (s.setN v).y = s.y := rfl
@[simp] theorem State.setN_flagC (s : State) (v : Bool) : (s.setN v).flagC = s.flagC := rfl
@[simp] theorem State.setN_flagZ (s : State) (v : Bool) : (s.setN v).flagZ = s.flagZ := rfl
@[simp] theorem State.setN_flagI (s : State) (v : Bool) : (s.setN v).flagI = s.flagI := rfl
@[simp] theorem State.setN_flagD (s : State) (v : Bool) : (s.setN v).flagD = s.flagD := rfl
@[simp] theorem State.setN_flagB (s : State) (v : Bool) : (s.setN v).flagB = s.flagB := rfl
@[simp] theorem State.setN_flagV (s : State) (v : Bool) : (s.setN v).flagV = s.flagV := rfl
@[simp] theorem State.setN_flagN (s : State) (v : Bool) : (s.setN v).flagN = v := rfl
@[simp] theorem State.setN_cyc (s : State) (v : Bool) : (s.setN v).cyc = s.cyc := rfl
@[simp] theorem State.setN_run (s : State) (v : Bool) : (s.setN v).run = s.run := rfl
@[simp] theorem State.setN_paused (s : State) (v : Bool) : (s.setN v).paused = s.paused := rfl
@[simp] theorem State.setN_dbg (s : State) (v : Bool) : (s.setN v).dbg = s.dbg := rfl
@[simp] theorem State.setN_mem (s : State) (v : Bool) : (s.setN v).mem = s.mem := rfl
@[simp] theorem State.setN_agenda (s : State) (v : Bool) : (s.setN v).agenda = s.agenda := rfl
@[simp] theorem State.setN_replies (s : State) (v : Bool) : (s.setN v).replies = s.replies := rfl
@[simp] theorem State.setN_free (s : State) (v : Bool) : (s.setN v).free = s.free := rfl
@[simp] theorem State.setN_read (s : State) (v : Bool) (q : Word) : (s.setN v).read q = s.read q := rfl

@[simp] theorem memWrite_pc (s : State) (q : Word) (v : Byte) : (memWrite s q v).pc = s.pc := rfl
@[simp] theorem memWrite_sp (s : State) (q : Word) (v : Byte) : (memWrite s q v).sp = s.sp := rfl
@[simp] theorem memWrite_a (s : State) (q : Word) (v : Byte) : (memWrite s q v).a = s.a := rfl
@[simp] theorem memWrite_x (s : State) (q : Word) (v : Byte) : (memWrite s q v).x = s.x := rfl
@[simp] theorem memWrite_y (s : State) (q : Word) (v : Byte) : (memWrite s q v).y = s.y := rfl
@[simp] theorem memWrite_flagC (s : State) (q : Word) (v : Byte) : (memWrite s q v).flagC = s.flagC := rfl
@[simp] theorem memWrite_flagZ (s : State) (q : Word) (v : Byte) : (memWrite s q v).flagZ = s.flagZ := rfl
@[simp] theorem memWrite_flagI (s : State) (q : Word) (v : Byte) : (memWrite s q v).flagI = s.flagI := rfl
@[simp] theorem memWrite_flagD (s : State) (q : Word) (v : Byte) : (memWrite s q v).flagD = s.flagD := rfl
@[simp] theorem memWrite_flagB (s : State) (q : Word) (v : Byte) : (memWrite s q v).flagB = s.flagB := rfl
@[simp] theorem memWrite_flagV (s : State) (q : Word) (v : Byte) : (memWrite s q v).flagV = s.flagV := rfl
@[simp] theorem memWrite_flagN (s : State) (q : Word) (v : Byte) : (memWrite s q v).flagN = s.flagN := rfl
@[simp] theorem memWrite_cyc (s : State) (q : Word) (v : Byte) : (memWrite s q v).cyc = s.cyc := rfl
@[simp] theorem memWrite_run (s : State) (q : Word) (v : Byte) : (memWrite s q v).run = s.run := rfl
@[simp] theorem memWrite_paused (s : State) (q : Word) (v : Byte) : (memWrite s q v).paused = s.paused := rfl
@[simp] theorem memWrite_dbg (s : State) (q : Word) (v : Byte) : (memWrite s q v).dbg = s.dbg := rfl
@[simp] theorem memWrite_agenda (s : State) (q : Word) (v : Byte) : (memWrite s q v).agenda = s.agenda := rfl
@[simp] theorem memWrite_replies (s : State) (q : Word) (v : Byte) : (memWrite s q v).replies = s.replies := rfl
@[simp] theorem memWrite_free (s : State) (q : Word) (v : Byte) : (memWrite s q v).free = s.free := rfl
@[simp] theorem memWrite_mem (s : State) (q : Word) (v : Byte) : (memWrite s q v).mem = s.mem.write q.toNat v := rfl

@[simp] theorem State.setPaused_pc (s : State) (v : Bool) : (s.setPaused v).pc = s.pc := rfl
@[simp] theorem State.setPaused_sp (s : State) (v : Bool) : (s.setPaused v).sp = s.sp := rfl
@[simp] theorem State.setPaused_a (s : State) (v : Bool) : (s.setPaused v).a = s.a := rfl
@[simp] theorem State.setPaused_x (s : State) (v : Bool) : (s.setPaused v).x = s.x := rfl
@[simp] theorem State.setPaused_y (s : State) (v : Bool) : (s.setPaused v).y = s.y := rfl
@[simp] theorem State.setPaused_flagC (s : State) (v : Bool) : (s.setPaused v).flagC = s.flagC := rfl
@[simp] theorem State.setPaused_flagZ (s : State) (v : Bool) : (s.setPaused v).flagZ = s.flagZ := rfl
@[simp] theorem State.setPaused_flagI (s : State) (v : Bool) : (s.setPaused v).flagI = s.flagI := rfl
@[simp] theorem State.setPaused_flagD (s : State) (v : Bool) : (s.setPaused v).flagD = s.flagD := rfl
@[simp] theorem State.setPaused_flagB (s : State) (v : Bool) : (s.setPaused v).flagB = s.flagB := rfl
@[simp] theorem State.setPaused_flagV (s : State) (v : Bool) : (s.setPaused v).flagV = s.flagV := rfl
@[simp] theorem State.setPaused_flagN (s : State) (v : Bool) : (s.setPaused v).flagN = s.flagN := rfl
@[simp] theorem State.setPaused_cyc (s : State) (v : Bool) : (s.setPaused v).cyc = s.cyc := rfl
@[simp] theorem State.setPaused_run (s : State) (v : Bool) : (s.setPaused v).run = s.run := rfl
@[simp] theorem State.setPaused_paused (s : State) (v : Bool) : (s.setPaused v).paused = v := rfl
@[simp] theorem State.setPaused_dbg (s : State) (v : Bool) : (s.setPaused v).dbg = s.dbg := rfl
@[simp] theorem State.setPaused_mem (s : State) (v : Bool) : (s.setPaused v).mem = s.mem := rfl
@[simp] theorem State.setPaused_agenda (s : State) (v : Bool) : (s.setPaused v).agenda = s.agenda := rfl
@[simp] theorem State.setPaused_replies (s : State) (v : Bool) : (s.setPaused v).replies = s.replies.map (Reply.settle v) := rfl
@[simp] theorem State.setPaused_free (s : State) (v : Bool) : (s.setPaused v).free = s.free := rfl
@[simp] theorem State.setPaused_read (s : State) (v : Bool) (q : Word) : (s.setPaused v).read q = s.read q := rfl

@[simp] theorem State.answer_pc (s : State) (v : Reply) : (s.answer v).pc = s.pc := rfl
@[simp] theorem State.answer_sp (s : State) (v : Reply) : (s.answer v).sp = s.sp := rfl
@[simp] theorem State.answer_a (s : State) (v : Reply) : (s.answer v).a = s.a := rfl
@[simp] theorem State.answer_x (s : State) (v : Reply) : (s.answer v).x = s.x := rfl
@[simp] theorem State.answer_y (s : State) (v : Reply) : (s.answer v).y = s.y := rfl
@[simp] theorem State.answer_flagC (s : State) (v : Reply) : (s.answer v).flagC = s.flagC := rfl
@[simp] theorem State.answer_flagZ (s : State) (v : Reply) : (s.answer v).flagZ = s.flagZ := rfl
@[simp] theorem State.answer_flagI (s : State) (v : Reply) : (s.answer v).flagI = s.flagI := rfl
@[simp] theorem State.answer_flagD (s : State) (v : Reply) : (s.answer v).flagD = s.flagD := rfl
@[simp] theorem State.answer_flagB (s : State) (v : Reply) : (s.answer v).flagB = s.flagB := rfl
@[simp] theorem State.answer_flagV (s : State) (v : Reply) : (s.answer v).flagV = s.flagV := rfl
@[simp] theorem State.answer_flagN (s : State) (v : Reply) : (s.answer v).flagN = s.flagN := rfl
@[simp] theorem State.answer_cyc (s : State) (v : Reply) : (s.answer v).cyc = s.cyc := rfl
@[simp] theorem State.answer_run (s : State) (v : Reply) : (s.answer v).run = s.run := rfl
@[simp] theorem State.answer_paused (s : State) (v : Reply) : (s.answer v).paused = s.paused := rfl
@[simp] theorem State.answer_dbg (s : State) (v : Reply) : (s.answer v).dbg = s.dbg := rfl
@[simp] theorem State.answer_mem (s : State) (v : Reply) : (s.answer v).mem = s.mem := rfl
@[simp] theorem State.answer_agenda (s : State) (v : Reply) : (s.answer v).agenda = s.agenda := rfl
@[simp] theorem State.answer_replies (s : State) (v : Reply) : (s.answer v).replies = s.replies ++ [v] := rfl
@[simp] theorem State.answer_free (s : State) (v : Reply) : (s.answer v).free = s.free := rfl
@[simp] theorem State.answer_read (s : State) (v : Reply) (q : Word) : (s.answer v).read q = s.read q := rfl

end Sys2Proof.Machine
end

