-- ==== Sys2Proof/Laws/Memory.lean ====
section
/-!
SUPPORT. Every memory operation keeps the canonical form.
-/

namespace Sys2Proof.Machine

theorem Memory.wfFrom_mono {lo lo' : Nat} (h : lo ≤ lo') :
    ∀ {m : Memory}, Memory.wfFrom lo' m = true → Memory.wfFrom lo m = true
  | [], _ => rfl
  | (k, b) :: m, hm => by
    simp only [Memory.wfFrom, Bool.and_eq_true, decide_eq_true_eq] at hm ⊢
    exact ⟨⟨⟨h.trans hm.1.1.1, hm.1.1.2⟩, hm.1.2⟩, hm.2⟩

theorem Memory.listed_wfFrom {lo a : Nat} {v : Byte} {m : Memory} (hlo : lo ≤ a) (ha : a < 65536)
    (hm : Memory.wfFrom (a + 1) m = true) : Memory.wfFrom lo (Memory.listed a v m) = true := by
  unfold Memory.listed
  split
  · exact Memory.wfFrom_mono (by omega) hm
  · simp_all [Memory.wfFrom]

theorem Memory.write_wfFrom {a : Nat} (v : Byte) (ha : a < 65536) :
    ∀ (m : Memory) {lo : Nat}, lo ≤ a → Memory.wfFrom lo m = true → Memory.wfFrom lo (m.write a v) = true
  | [], lo, hlo, _ => Memory.listed_wfFrom hlo ha rfl
  | (k, b) :: m, lo, hlo, hm => by
    have hm' := hm
    simp only [Memory.wfFrom, Bool.and_eq_true, decide_eq_true_eq] at hm
    obtain ⟨⟨⟨hk, hk'⟩, hb⟩, hrest⟩ := hm
    unfold Memory.write
    split
    · refine Memory.listed_wfFrom hlo ha ?_
      simp only [Memory.wfFrom, Bool.and_eq_true, decide_eq_true_eq]
      exact ⟨⟨⟨by omega, hk'⟩, hb⟩, hrest⟩
    · split
      · exact Memory.listed_wfFrom hlo ha (Memory.wfFrom_mono (by omega) hrest)
      · simp only [Memory.wfFrom, Bool.and_eq_true, decide_eq_true_eq]
        exact ⟨⟨⟨hk, hk'⟩, hb⟩, Memory.write_wfFrom v ha m (by omega) hrest⟩

theorem Memory.write_wf {m : Memory} {a : Nat} (v : Byte) (ha : a < 65536) (hm : m.wf = true) :
    (m.write a v).wf = true :=
  Memory.write_wfFrom v ha m (Nat.zero_le a) hm

theorem Memory.place_wfFrom : ∀ (bytes : List Byte) {base lo : Nat}, lo ≤ base → base + bytes.length ≤ 65536 →
    Memory.wfFrom lo (Memory.place base bytes) = true
  | [], _, _, _, _ => rfl
  | b :: bytes, base, lo, hlo, h => by
    simp only [List.length_cons] at h
    exact Memory.listed_wfFrom hlo (by omega) (Memory.place_wfFrom bytes (le_refl _) (by omega))

theorem Memory.place_wf {base : Nat} {bytes : List Byte} (h : base + bytes.length ≤ 65536) :
    (Memory.place base bytes).wf = true :=
  Memory.place_wfFrom bytes (Nat.zero_le base) h

/-- The image load builds a memory in canonical form. -/
theorem padImage_wf {limit : Nat} {image : List Byte} {m : Memory} (hl : limit ≤ 65536)
    (h : padImage limit image = some m) : m.wf = true := by
  unfold padImage at h
  split at h
  · cases h
    exact Memory.place_wf (by omega)
  · split at h
    · cases h
      exact Memory.place_wf (by omega)
    · cases h

theorem memWrite_wf {s : State} (q : Word) (v : Byte) (h : s.mem.wf = true) : (memWrite s q v).mem.wf = true :=
  Memory.write_wf v q.isLt h

theorem storeBytes_wf : ∀ (bs : List Byte) {s : State} (q : Word), s.mem.wf = true →
    (storeBytes s q bs).mem.wf = true
  | [], _, _, h => h
  | b :: bs, _, q, h => storeBytes_wf bs (q + 1) (memWrite_wf q b h)

theorem reset_mem_wf : State.reset.mem.wf = true := rfl

end Sys2Proof.Machine
end

