-- ==== Sys2Proof/Laws/Ops.lean ====
section
/-!
SUPPORT. What the shared operations answer with the parameter values this spec takes.
-/

namespace Sys2Proof.Machine

/-- A read answers the byte in every state whose registers and memory have a value. -/
theorem memRead_params {s : State} (h : s.run ≠ .unreset) (q : Word) : memRead params s q = .ok (s.read q) := by
  have hq : q.toNat < 65536 := q.isLt
  simp [memRead, h, params, hq]

theorem inc16_params (v : Word) : inc16 params.pcOverflow v = .ok (v + 1) := rfl

theorem indexedAbsolute_params (base : Word) (idx : Byte) :
    indexedAbsolute params.eaOverflow base idx = .ok (base + zext16 idx) := rfl

/-- The fetch reads its bytes one after the other. -/
theorem fetchBytes_params {s : State} (h : s.run ≠ .unreset) : ∀ (n : Nat) (p : Word),
    fetchBytes params s p n = .ok ((addressesFrom p n).map s.read)
  | 0, _ => rfl
  | n + 1, p => by
    simp only [fetchBytes, memRead_params h, fetchBytes_params h n (p + 1), addressesFrom, List.map_cons]

/-- The fetch answers the bytes of the instruction at `pc`. -/
theorem fetch_params {s : State} (h : s.run ≠ .unreset) :
    fetch params s = .ok ((addressesFrom s.pc (lengthOf (s.read s.pc))).map s.read) := by
  simp only [fetch, memRead_params h, fetchBytes_params h]

/-- A successful read says where the byte came from. -/
theorem memRead_ok {P : Config.Params} {s : State} {q : Word} {v : Byte} (h : memRead P s q = .ok v) :
    s.run ≠ .unreset ∧ q.toNat < P.memoryLimit ∧ v = s.read q := by
  unfold memRead at h
  split at h
  · cases h
  · split at h
    · cases h
      exact ⟨‹_›, ‹_›, rfl⟩
    · cases h

@[simp] theorem Reply.settle_done (v : Bool) : Reply.settle v .done = .done := rfl
@[simp] theorem Reply.settle_configError (v : Bool) : Reply.settle v .configError = .configError := rfl
@[simp] theorem Reply.settle_awaiting (v w : Bool) :
    Reply.settle v (.awaiting w) = if w = v then .done else .awaiting w := by
  cases v <;> cases w <;> rfl

@[simp] theorem Reply.settle_settle (v : Bool) (r : Reply) : Reply.settle v (Reply.settle v r) = Reply.settle v r := by
  cases r with
  | done => rfl
  | configError => rfl
  | awaiting w => cases v <;> cases w <;> rfl

/-- A completion leaves no toggle that waits for the value `paused` has. -/
theorem awaiting_not_mem_settle (v : Bool) (l : List Reply) : .awaiting v ∉ l.map (Reply.settle v) := by
  simp only [List.mem_map, not_exists, not_and]
  intro q _
  cases q with
  | done => simp
  | configError => simp
  | awaiting w =>
    rw [Reply.settle_awaiting]
    split <;> simp_all

/-- Where no toggle waits for the value `paused` has, a completion changes no reply. -/
theorem map_settle_of_not_mem {v : Bool} {l : List Reply} (h : .awaiting v ∉ l) : l.map (Reply.settle v) = l := by
  have hs : ∀ q ∈ l, Reply.settle v q = q := by
    intro q hq
    exact if_neg (by rintro rfl; exact h hq)
  rw [List.map_congr_left hs, List.map_id']

end Sys2Proof.Machine
end

