-- ==== Sys2Proof/Laws/Micro.lean ====
section
/-!
SUPPORT. What one instruction can do, said once: the frame of an assignment and of a sequence of them, what `perform`
answers, and every instruction as `perform` of its sequence.
-/

namespace Sys2Proof.Machine

/-- What no assignment of an instruction writes: everything but pc, cyc, x[A], flag.Z and flag.N. -/
structure SameOutside (s t : State) : Prop where
  sp : t.sp = s.sp
  x : t.x = s.x
  y : t.y = s.y
  flagC : t.flagC = s.flagC
  flagI : t.flagI = s.flagI
  flagD : t.flagD = s.flagD
  flagB : t.flagB = s.flagB
  flagV : t.flagV = s.flagV
  run : t.run = s.run
  paused : t.paused = s.paused
  dbg : t.dbg = s.dbg
  mem : t.mem = s.mem
  agenda : t.agenda = s.agenda
  replies : t.replies = s.replies
  free : t.free = s.free

theorem SameOutside.refl (s : State) : SameOutside s s := by constructor <;> rfl

theorem SameOutside.trans {s t u : State} (h : SameOutside s t) (k : SameOutside t u) : SameOutside s u where
  sp := k.sp.trans h.sp
  x := k.x.trans h.x
  y := k.y.trans h.y
  flagC := k.flagC.trans h.flagC
  flagI := k.flagI.trans h.flagI
  flagD := k.flagD.trans h.flagD
  flagB := k.flagB.trans h.flagB
  flagV := k.flagV.trans h.flagV
  run := k.run.trans h.run
  paused := k.paused.trans h.paused
  dbg := k.dbg.trans h.dbg
  mem := k.mem.trans h.mem
  agenda := k.agenda.trans h.agenda
  replies := k.replies.trans h.replies
  free := k.free.trans h.free

/-- The frame of one assignment. -/
theorem Micro.apply_frame {P : Config.Params} {m : Micro} {l l' : Latch} (h : m.apply P l = .ok l') :
    SameOutside l.state l'.state := by
  cases m <;> simp only [Micro.apply] at h
  case advancePc => split at h <;> cases h; constructor <;> rfl
  case readValue => split at h <;> cases h; exact .refl _
  all_goals cases h; constructor <;> rfl

/-- The frame of a sequence of assignments. -/
theorem runMicros_frame {P : Config.Params} : ∀ (ms : List Micro) {l l' : Latch}, runMicros P ms l = .ok l' →
    SameOutside l.state l'.state
  | [], _, _, h => by cases h; exact .refl _
  | m :: ms, l, l', h => by
    unfold runMicros at h
    split at h
    · rename_i l₁ h₁
      exact (Micro.apply_frame h₁).trans (runMicros_frame ms h)
    · cases h

/-- Everything `perform` can answer with a next state. -/
theorem perform_next {P : Config.Params} {prog : List Micro} {s t : State} (h : perform P prog s = .next t) :
    s.run ≠ .unreset ∧ SameOutside s t ∧ ∃ l, runMicros P prog (Latch.start s) = .ok l ∧ t = l.state := by
  unfold perform at h
  split at h
  · cases h
  · split at h
    · rename_i l hl
      cases h
      exact ⟨‹_›, runMicros_frame prog hl, l, hl, rfl⟩
    · cases h

/-- The operand value with the parameter values taken: never an error in a state that has values. -/
theorem operandValue_params {s : State} (h : s.run ≠ .unreset) : ∀ f : Operand,
    operandValue params s f = .ok (match f with
      | .immediate imm => imm
      | .zeroPage zp => s.read (zext16 zp)
      | .zeroPageIndexed zp i => s.read (indexedZeroPage zp (s.reg i))
      | .absolute abs => s.read abs
      | .absoluteIndexed abs i => s.read (abs + zext16 (s.reg i)))
  | .immediate _ => rfl
  | .zeroPage _ => memRead_params h _
  | .zeroPageIndexed _ _ => memRead_params h _
  | .absolute _ => memRead_params h _
  | .absoluteIndexed _ _ => memRead_params h _

@[simp] theorem operandValue_setPc (P : Config.Params) (s : State) (v : Word) (f : Operand) :
    operandValue P (s.setPc v) f = operandValue P s f := by cases f <;> rfl

@[simp] theorem operandValue_setCyc (P : Config.Params) (s : State) (v : Byte) (f : Operand) :
    operandValue P (s.setCyc v) f = operandValue P s f := by cases f <;> rfl

/-- The cyc a load ends with (R107). -/
def loadCycles : Operand → Byte
  | .immediate _ => 2
  | .zeroPage _ => 3
  | .zeroPageIndexed _ _ => 4
  | .absolute _ => 4
  | .absoluteIndexed _ _ => 4

/-- Everything a load does with the parameter values taken, the operand's value being `v`. -/
theorem loadAccumulator_params {s : State} {f : Operand} {v : Byte} (h : s.run ≠ .unreset)
    (hv : operandValue params s f = .ok v) :
    loadAccumulator f s = .next { s with
      pc := s.pc + BitVec.ofNat 16 f.length
      cyc := loadCycles f
      a := v
      flagZ := zeroFlag v
      flagN := negativeFlag v } := by
  have hc : params.absAddrFetch = .perByte := rfl
  cases f <;>
    simp only [loadAccumulator, perform, h, if_false, loadProgram, opcodeFetch, resolve, hc, addressFetch, loadA,
      List.cons_append, List.nil_append, runMicros, Micro.apply, inc16_params, operandValue_setPc,
      operandValue_setCyc, Latch.start, hv] <;>
    simp [State.setPc, State.setCyc, State.setA, State.setZ, State.setN, Operand.length, BitVec.add_assoc,
      loadCycles]

/-- Everything an unmapped opcode does. -/
theorem noOperation_params {s : State} (h : s.run ≠ .unreset) :
    noOperation s = .next { s with pc := s.pc + 1, cyc := 1 } := by
  simp only [noOperation, perform, h, if_false, opcodeFetch, runMicros, Micro.apply, inc16_params, Latch.start]
  simp [State.setPc, State.setCyc]

/-- Every instruction is `perform` of its sequence of assignments. -/
theorem exec_eq_perform (i : Instr) (s : State) : exec i s = perform params (program params i) s := by
  cases i <;> rfl

/-- Every instruction is the load of its operand, or the one-byte no-op. -/
theorem exec_eq_operand (i : Instr) (s : State) : exec i s =
    match i.operand? with
    | some f => loadAccumulator f s
    | none => noOperation s := by
  cases i <;> rfl

end Sys2Proof.Machine
end

