-- ==== Sys2Proof/Laws/PerInstr.lean ====
section
/-!
SUPPORT. The per-instruction family EncodedLength: the encoding of an instruction has the length its format gives it
(R80, R81), and the instruction passes its check.
-/

/-- The encoding has as many bytes as the format says, and the check accepts the instruction. -/
def Sys2Proof.Laws.EncodedLength.Statement (i : Sys2Proof.Instr) : Prop :=
  (Sys2Proof.encode i).length = i.length ∧ i.wellFormed = true

theorem Sys2Proof.Laws.EncodedLength.ldaImm (imm : Sys2Proof.Byte) :
    Sys2Proof.Laws.EncodedLength.Statement (.ldaImm imm) := ⟨rfl, rfl⟩

theorem Sys2Proof.Laws.EncodedLength.ldaZp (zp : Sys2Proof.Byte) :
    Sys2Proof.Laws.EncodedLength.Statement (.ldaZp zp) := ⟨rfl, rfl⟩

theorem Sys2Proof.Laws.EncodedLength.ldaZpX (zp : Sys2Proof.Byte) :
    Sys2Proof.Laws.EncodedLength.Statement (.ldaZpX zp) := ⟨rfl, rfl⟩

theorem Sys2Proof.Laws.EncodedLength.ldaAbs (abs : Sys2Proof.Word) :
    Sys2Proof.Laws.EncodedLength.Statement (.ldaAbs abs) := ⟨rfl, rfl⟩

theorem Sys2Proof.Laws.EncodedLength.ldaAbsX (abs : Sys2Proof.Word) :
    Sys2Proof.Laws.EncodedLength.Statement (.ldaAbsX abs) := ⟨rfl, rfl⟩

theorem Sys2Proof.Laws.EncodedLength.unmapped00 :
    Sys2Proof.Laws.EncodedLength.Statement .unmapped00 := ⟨rfl, rfl⟩

theorem Sys2Proof.Laws.EncodedLength.unmapped01 :
    Sys2Proof.Laws.EncodedLength.Statement .unmapped01 := ⟨rfl, rfl⟩

theorem Sys2Proof.Laws.EncodedLength.unmapped02 :
    Sys2Proof.Laws.EncodedLength.Statement .unmapped02 := ⟨rfl, rfl⟩

theorem Sys2Proof.Laws.EncodedLength.unmapped03 :
    Sys2Proof.Laws.EncodedLength.Statement .unmapped03 := ⟨rfl, rfl⟩

theorem Sys2Proof.Laws.EncodedLength.unmapped04 :
    Sys2Proof.Laws.EncodedLength.Statement .unmapped04 := ⟨rfl, rfl⟩

theorem Sys2Proof.Laws.EncodedLength.unmapped05 :
    Sys2Proof.Laws.EncodedLength.Statement .unmapped05 := ⟨rfl, rfl⟩

theorem Sys2Proof.Laws.EncodedLength.unmapped06 :
    Sys2Proof.Laws.EncodedLength.Statement .unmapped06 := ⟨rfl, rfl⟩

theorem Sys2Proof.Laws.EncodedLength.unmapped07 :
    Sys2Proof.Laws.EncodedLength.Statement .unmapped07 := ⟨rfl, rfl⟩

theorem Sys2Proof.Laws.EncodedLength.unmapped08 :
    Sys2Proof.Laws.EncodedLength.Statement .unmapped08 := ⟨rfl, rfl⟩

theorem Sys2Proof.Laws.EncodedLength.unmapped09 :
    Sys2Proof.Laws.EncodedLength.Statement .unmapped09 := ⟨rfl, rfl⟩

theorem Sys2Proof.Laws.EncodedLength.unmapped0A :
    Sys2Proof.Laws.EncodedLength.Statement .unmapped0A := ⟨rfl, rfl⟩

theorem Sys2Proof.Laws.EncodedLength.unmapped0B :
    Sys2Proof.Laws.EncodedLength.Statement .unmapped0B := ⟨rfl, rfl⟩

theorem Sys2Proof.Laws.EncodedLength.unmapped0C :
    Sys2Proof.Laws.EncodedLength.Statement .unmapped0C := ⟨rfl, rfl⟩

theorem Sys2Proof.Laws.EncodedLength.unmapped0D :
    Sys2Proof.Laws.EncodedLength.Statement .unmapped0D := ⟨rfl, rfl⟩

theorem Sys2Proof.Laws.EncodedLength.unmapped0E :
    Sys2Proof.Laws.EncodedLength.Statement .unmapped0E := ⟨rfl, rfl⟩

theorem Sys2Proof.Laws.EncodedLength.unmapped0F :
    Sys2Proof.Laws.EncodedLength.Statement .unmapped0F := ⟨rfl, rfl⟩

theorem Sys2Proof.Laws.EncodedLength.unmapped10 :
    Sys2Proof.Laws.EncodedLength.Statement .unmapped10 := ⟨rfl, rfl⟩

theorem Sys2Proof.Laws.EncodedLength.unmapped11 :
    Sys2Proof.Laws.EncodedLength.Statement .unmapped11 := ⟨rfl, rfl⟩

theorem Sys2Proof.Laws.EncodedLength.unmapped12 :
    Sys2Proof.Laws.EncodedLength.Statement .unmapped12 := ⟨rfl, rfl⟩

theorem Sys2Proof.Laws.EncodedLength.unmapped13 :
    Sys2Proof.Laws.EncodedLength.Statement .unmapped13 := ⟨rfl, rfl⟩

theorem Sys2Proof.Laws.EncodedLength.unmapped14 :
    Sys2Proof.Laws.EncodedLength.Statement .unmapped14 := ⟨rfl, rfl⟩

theorem Sys2Proof.Laws.EncodedLength.unmapped15 :
    Sys2Proof.Laws.EncodedLength.Statement .unmapped15 := ⟨rfl, rfl⟩

theorem Sys2Proof.Laws.EncodedLength.unmapped16 :
    Sys2Proof.Laws.EncodedLength.Statement .unmapped16 := ⟨rfl, rfl⟩

theorem Sys2Proof.Laws.EncodedLength.unmapped17 :
    Sys2Proof.Laws.EncodedLength.Statement .unmapped17 := ⟨rfl, rfl⟩

theorem Sys2Proof.Laws.EncodedLength.unmapped18 :
    Sys2Proof.Laws.EncodedLength.Statement .unmapped18 := ⟨rfl, rfl⟩

theorem Sys2Proof.Laws.EncodedLength.unmapped19 :
    Sys2Proof.Laws.EncodedLength.Statement .unmapped19 := ⟨rfl, rfl⟩

theorem Sys2Proof.Laws.EncodedLength.unmapped1A :
    Sys2Proof.Laws.EncodedLength.Statement .unmapped1A := ⟨rfl, rfl⟩

theorem Sys2Proof.Laws.EncodedLength.unmapped1B :
    Sys2Proof.Laws.EncodedLength.Statement .unmapped1B := ⟨rfl, rfl⟩

theorem Sys2Proof.Laws.EncodedLength.unmapped1C :
    Sys2Proof.Laws.EncodedLength.Statement .unmapped1C := ⟨rfl, rfl⟩

theorem Sys2Proof.Laws.EncodedLength.unmapped1D :
    Sys2Proof.Laws.EncodedLength.Statement .unmapped1D := ⟨rfl, rfl⟩

theorem Sys2Proof.Laws.EncodedLength.unmapped1E :
    Sys2Proof.Laws.EncodedLength.Statement .unmapped1E := ⟨rfl, rfl⟩

theorem Sys2Proof.Laws.EncodedLength.unmapped1F :
    Sys2Proof.Laws.EncodedLength.Statement .unmapped1F := ⟨rfl, rfl⟩

theorem Sys2Proof.Laws.EncodedLength.unmapped20 :
    Sys2Proof.Laws.EncodedLength.Statement .unmapped20 := ⟨rfl, rfl⟩

theorem Sys2Proof.Laws.EncodedLength.unmapped21 :
    Sys2Proof.Laws.EncodedLength.Statement .unmapped21 := ⟨rfl, rfl⟩

theorem Sys2Proof.Laws.EncodedLength.unmapped22 :
    Sys2Proof.Laws.EncodedLength.Statement .unmapped22 := ⟨rfl, rfl⟩

theorem Sys2Proof.Laws.EncodedLength.unmapped23 :
    Sys2Proof.Laws.EncodedLength.Statement .unmapped23 := ⟨rfl, rfl⟩

theorem Sys2Proof.Laws.EncodedLength.unmapped24 :
    Sys2Proof.Laws.EncodedLength.Statement .unmapped24 := ⟨rfl, rfl⟩

theorem Sys2Proof.Laws.EncodedLength.unmapped25 :
    Sys2Proof.Laws.EncodedLength.Statement .unmapped25 := ⟨rfl, rfl⟩

theorem Sys2Proof.Laws.EncodedLength.unmapped26 :
    Sys2Proof.Laws.EncodedLength.Statement .unmapped26 := ⟨rfl, rfl⟩

theorem Sys2Proof.Laws.EncodedLength.unmapped27 :
    Sys2Proof.Laws.EncodedLength.Statement .unmapped27 := ⟨rfl, rfl⟩

theorem Sys2Proof.Laws.EncodedLength.unmapped28 :
    Sys2Proof.Laws.EncodedLength.Statement .unmapped28 := ⟨rfl, rfl⟩

theorem Sys2Proof.Laws.EncodedLength.unmapped29 :
    Sys2Proof.Laws.EncodedLength.Statement .unmapped29 := ⟨rfl, rfl⟩

theorem Sys2Proof.Laws.EncodedLength.unmapped2A :
    Sys2Proof.Laws.EncodedLength.Statement .unmapped2A := ⟨rfl, rfl⟩

theorem Sys2Proof.Laws.EncodedLength.unmapped2B :
    Sys2Proof.Laws.EncodedLength.Statement .unmapped2B := ⟨rfl, rfl⟩

theorem Sys2Proof.Laws.EncodedLength.unmapped2C :
    Sys2Proof.Laws.EncodedLength.Statement .unmapped2C := ⟨rfl, rfl⟩

theorem Sys2Proof.Laws.EncodedLength.unmapped2D :
    Sys2Proof.Laws.EncodedLength.Statement .unmapped2D := ⟨rfl, rfl⟩

theorem Sys2Proof.Laws.EncodedLength.unmapped2E :
    Sys2Proof.Laws.EncodedLength.Statement .unmapped2E := ⟨rfl, rfl⟩

theorem Sys2Proof.Laws.EncodedLength.unmapped2F :
    Sys2Proof.Laws.EncodedLength.Statement .unmapped2F := ⟨rfl, rfl⟩

theorem Sys2Proof.Laws.EncodedLength.unmapped30 :
    Sys2Proof.Laws.EncodedLength.Statement .unmapped30 := ⟨rfl, rfl⟩

theorem Sys2Proof.Laws.EncodedLength.unmapped31 :
    Sys2Proof.Laws.EncodedLength.Statement .unmapped31 := ⟨rfl, rfl⟩

theorem Sys2Proof.Laws.EncodedLength.unmapped32 :
    Sys2Proof.Laws.EncodedLength.Statement .unmapped32 := ⟨rfl, rfl⟩

theorem Sys2Proof.Laws.EncodedLength.unmapped33 :
    Sys2Proof.Laws.EncodedLength.Statement .unmapped33 := ⟨rfl, rfl⟩

theorem Sys2Proof.Laws.EncodedLength.unmapped34 :
    Sys2Proof.Laws.EncodedLength.Statement .unmapped34 := ⟨rfl, rfl⟩

theorem Sys2Proof.Laws.EncodedLength.unmapped35 :
    Sys2Proof.Laws.EncodedLength.Statement .unmapped35 := ⟨rfl, rfl⟩

theorem Sys2Proof.Laws.EncodedLength.unmapped36 :
    Sys2Proof.Laws.EncodedLength.Statement .unmapped36 := ⟨rfl, rfl⟩

theorem Sys2Proof.Laws.EncodedLength.unmapped37 :
    Sys2Proof.Laws.EncodedLength.Statement .unmapped37 := ⟨rfl, rfl⟩

theorem Sys2Proof.Laws.EncodedLength.unmapped38 :
    Sys2Proof.Laws.EncodedLength.Statement .unmapped38 := ⟨rfl, rfl⟩

theorem Sys2Proof.Laws.EncodedLength.unmapped39 :
    Sys2Proof.Laws.EncodedLength.Statement .unmapped39 := ⟨rfl, rfl⟩

theorem Sys2Proof.Laws.EncodedLength.unmapped3A :
    Sys2Proof.Laws.EncodedLength.Statement .unmapped3A := ⟨rfl, rfl⟩

theorem Sys2Proof.Laws.EncodedLength.unmapped3B :
    Sys2Proof.Laws.EncodedLength.Statement .unmapped3B := ⟨rfl, rfl⟩

theorem Sys2Proof.Laws.EncodedLength.unmapped3C :
    Sys2Proof.Laws.EncodedLength.Statement .unmapped3C := ⟨rfl, rfl⟩

theorem Sys2Proof.Laws.EncodedLength.unmapped3D :
    Sys2Proof.Laws.EncodedLength.Statement .unmapped3D := ⟨rfl, rfl⟩

theorem Sys2Proof.Laws.EncodedLength.unmapped3E :
    Sys2Proof.Laws.EncodedLength.Statement .unmapped3E := ⟨rfl, rfl⟩

theorem Sys2Proof.Laws.EncodedLength.unmapped3F :
    Sys2Proof.Laws.EncodedLength.Statement .unmapped3F := ⟨rfl, rfl⟩

theorem Sys2Proof.Laws.EncodedLength.unmapped40 :
    Sys2Proof.Laws.EncodedLength.Statement .unmapped40 := ⟨rfl, rfl⟩

theorem Sys2Proof.Laws.EncodedLength.unmapped41 :
    Sys2Proof.Laws.EncodedLength.Statement .unmapped41 := ⟨rfl, rfl⟩

theorem Sys2Proof.Laws.EncodedLength.unmapped42 :
    Sys2Proof.Laws.EncodedLength.Statement .unmapped42 := ⟨rfl, rfl⟩

theorem Sys2Proof.Laws.EncodedLength.unmapped43 :
    Sys2Proof.Laws.EncodedLength.Statement .unmapped43 := ⟨rfl, rfl⟩

theorem Sys2Proof.Laws.EncodedLength.unmapped44 :
    Sys2Proof.Laws.EncodedLength.Statement .unmapped44 := ⟨rfl, rfl⟩

theorem Sys2Proof.Laws.EncodedLength.unmapped45 :
    Sys2Proof.Laws.EncodedLength.Statement .unmapped45 := ⟨rfl, rfl⟩

theorem Sys2Proof.Laws.EncodedLength.unmapped46 :
    Sys2Proof.Laws.EncodedLength.Statement .unmapped46 := ⟨rfl, rfl⟩

theorem Sys2Proof.Laws.EncodedLength.unmapped47 :
    Sys2Proof.Laws.EncodedLength.Statement .unmapped47 := ⟨rfl, rfl⟩

theorem Sys2Proof.Laws.EncodedLength.unmapped48 :
    Sys2Proof.Laws.EncodedLength.Statement .unmapped48 := ⟨rfl, rfl⟩

theorem Sys2Proof.Laws.EncodedLength.unmapped49 :
    Sys2Proof.Laws.EncodedLength.Statement .unmapped49 := ⟨rfl, rfl⟩

theorem Sys2Proof.Laws.EncodedLength.unmapped4A :
    Sys2Proof.Laws.EncodedLength.Statement .unmapped4A := ⟨rfl, rfl⟩

theorem Sys2Proof.Laws.EncodedLength.unmapped4B :
    Sys2Proof.Laws.EncodedLength.Statement .unmapped4B := ⟨rfl, rfl⟩

theorem Sys2Proof.Laws.EncodedLength.unmapped4C :
    Sys2Proof.Laws.EncodedLength.Statement .unmapped4C := ⟨rfl, rfl⟩

theorem Sys2Proof.Laws.EncodedLength.unmapped4D :
    Sys2Proof.Laws.EncodedLength.Statement .unmapped4D := ⟨rfl, rfl⟩

theorem Sys2Proof.Laws.EncodedLength.unmapped4E :
    Sys2Proof.Laws.EncodedLength.Statement .unmapped4E := ⟨rfl, rfl⟩

theorem Sys2Proof.Laws.EncodedLength.unmapped4F :
    Sys2Proof.Laws.EncodedLength.Statement .unmapped4F := ⟨rfl, rfl⟩

theorem Sys2Proof.Laws.EncodedLength.unmapped50 :
    Sys2Proof.Laws.EncodedLength.Statement .unmapped50 := ⟨rfl, rfl⟩

theorem Sys2Proof.Laws.EncodedLength.unmapped51 :
    Sys2Proof.Laws.EncodedLength.Statement .unmapped51 := ⟨rfl, rfl⟩

theorem Sys2Proof.Laws.EncodedLength.unmapped52 :
    Sys2Proof.Laws.EncodedLength.Statement .unmapped52 := ⟨rfl, rfl⟩

theorem Sys2Proof.Laws.EncodedLength.unmapped53 :
    Sys2Proof.Laws.EncodedLength.Statement .unmapped53 := ⟨rfl, rfl⟩

theorem Sys2Proof.Laws.EncodedLength.unmapped54 :
    Sys2Proof.Laws.EncodedLength.Statement .unmapped54 := ⟨rfl, rfl⟩

theorem Sys2Proof.Laws.EncodedLength.unmapped55 :
    Sys2Proof.Laws.EncodedLength.Statement .unmapped55 := ⟨rfl, rfl⟩

theorem Sys2Proof.Laws.EncodedLength.unmapped56 :
    Sys2Proof.Laws.EncodedLength.Statement .unmapped56 := ⟨rfl, rfl⟩

theorem Sys2Proof.Laws.EncodedLength.unmapped57 :
    Sys2Proof.Laws.EncodedLength.Statement .unmapped57 := ⟨rfl, rfl⟩

theorem Sys2Proof.Laws.EncodedLength.unmapped58 :
    Sys2Proof.Laws.EncodedLength.Statement .unmapped58 := ⟨rfl, rfl⟩

theorem Sys2Proof.Laws.EncodedLength.unmapped59 :
    Sys2Proof.Laws.EncodedLength.Statement .unmapped59 := ⟨rfl, rfl⟩

theorem Sys2Proof.Laws.EncodedLength.unmapped5A :
    Sys2Proof.Laws.EncodedLength.Statement .unmapped5A := ⟨rfl, rfl⟩

theorem Sys2Proof.Laws.EncodedLength.unmapped5B :
    Sys2Proof.Laws.EncodedLength.Statement .unmapped5B := ⟨rfl, rfl⟩

theorem Sys2Proof.Laws.EncodedLength.unmapped5C :
    Sys2Proof.Laws.EncodedLength.Statement .unmapped5C := ⟨rfl, rfl⟩

theorem Sys2Proof.Laws.EncodedLength.unmapped5D :
    Sys2Proof.Laws.EncodedLength.Statement .unmapped5D := ⟨rfl, rfl⟩

theorem Sys2Proof.Laws.EncodedLength.unmapped5E :
    Sys2Proof.Laws.EncodedLength.Statement .unmapped5E := ⟨rfl, rfl⟩

theorem Sys2Proof.Laws.EncodedLength.unmapped5F :
    Sys2Proof.Laws.EncodedLength.Statement .unmapped5F := ⟨rfl, rfl⟩

theorem Sys2Proof.Laws.EncodedLength.unmapped60 :
    Sys2Proof.Laws.EncodedLength.Statement .unmapped60 := ⟨rfl, rfl⟩

theorem Sys2Proof.Laws.EncodedLength.unmapped61 :
    Sys2Proof.Laws.EncodedLength.Statement .unmapped61 := ⟨rfl, rfl⟩

theorem Sys2Proof.Laws.EncodedLength.unmapped62 :
    Sys2Proof.Laws.EncodedLength.Statement .unmapped62 := ⟨rfl, rfl⟩

theorem Sys2Proof.Laws.EncodedLength.unmapped63 :
    Sys2Proof.Laws.EncodedLength.Statement .unmapped63 := ⟨rfl, rfl⟩

theorem Sys2Proof.Laws.EncodedLength.unmapped64 :
    Sys2Proof.Laws.EncodedLength.Statement .unmapped64 := ⟨rfl, rfl⟩

theorem Sys2Proof.Laws.EncodedLength.unmapped65 :
    Sys2Proof.Laws.EncodedLength.Statement .unmapped65 := ⟨rfl, rfl⟩

theorem Sys2Proof.Laws.EncodedLength.unmapped66 :
    Sys2Proof.Laws.EncodedLength.Statement .unmapped66 := ⟨rfl, rfl⟩

theorem Sys2Proof.Laws.EncodedLength.unmapped67 :
    Sys2Proof.Laws.EncodedLength.Statement .unmapped67 := ⟨rfl, rfl⟩

theorem Sys2Proof.Laws.EncodedLength.unmapped68 :
    Sys2Proof.Laws.EncodedLength.Statement .unmapped68 := ⟨rfl, rfl⟩

theorem Sys2Proof.Laws.EncodedLength.unmapped69 :
    Sys2Proof.Laws.EncodedLength.Statement .unmapped69 := ⟨rfl, rfl⟩

theorem Sys2Proof.Laws.EncodedLength.unmapped6A :
    Sys2Proof.Laws.EncodedLength.Statement .unmapped6A := ⟨rfl, rfl⟩

theorem Sys2Proof.Laws.EncodedLength.unmapped6B :
    Sys2Proof.Laws.EncodedLength.Statement .unmapped6B := ⟨rfl, rfl⟩

theorem Sys2Proof.Laws.EncodedLength.unmapped6C :
    Sys2Proof.Laws.EncodedLength.Statement .unmapped6C := ⟨rfl, rfl⟩

theorem Sys2Proof.Laws.EncodedLength.unmapped6D :
    Sys2Proof.Laws.EncodedLength.Statement .unmapped6D := ⟨rfl, rfl⟩

theorem Sys2Proof.Laws.EncodedLength.unmapped6E :
    Sys2Proof.Laws.EncodedLength.Statement .unmapped6E := ⟨rfl, rfl⟩

theorem Sys2Proof.Laws.EncodedLength.unmapped6F :
    Sys2Proof.Laws.EncodedLength.Statement .unmapped6F := ⟨rfl, rfl⟩

theorem Sys2Proof.Laws.EncodedLength.unmapped70 :
    Sys2Proof.Laws.EncodedLength.Statement .unmapped70 := ⟨rfl, rfl⟩

theorem Sys2Proof.Laws.EncodedLength.unmapped71 :
    Sys2Proof.Laws.EncodedLength.Statement .unmapped71 := ⟨rfl, rfl⟩

theorem Sys2Proof.Laws.EncodedLength.unmapped72 :
    Sys2Proof.Laws.EncodedLength.Statement .unmapped72 := ⟨rfl, rfl⟩

theorem Sys2Proof.Laws.EncodedLength.unmapped73 :
    Sys2Proof.Laws.EncodedLength.Statement .unmapped73 := ⟨rfl, rfl⟩

theorem Sys2Proof.Laws.EncodedLength.unmapped74 :
    Sys2Proof.Laws.EncodedLength.Statement .unmapped74 := ⟨rfl, rfl⟩

theorem Sys2Proof.Laws.EncodedLength.unmapped75 :
    Sys2Proof.Laws.EncodedLength.Statement .unmapped75 := ⟨rfl, rfl⟩

theorem Sys2Proof.Laws.EncodedLength.unmapped76 :
    Sys2Proof.Laws.EncodedLength.Statement .unmapped76 := ⟨rfl, rfl⟩

theorem Sys2Proof.Laws.EncodedLength.unmapped77 :
    Sys2Proof.Laws.EncodedLength.Statement .unmapped77 := ⟨rfl, rfl⟩

theorem Sys2Proof.Laws.EncodedLength.unmapped78 :
    Sys2Proof.Laws.EncodedLength.Statement .unmapped78 := ⟨rfl, rfl⟩

theorem Sys2Proof.Laws.EncodedLength.unmapped79 :
    Sys2Proof.Laws.EncodedLength.Statement .unmapped79 := ⟨rfl, rfl⟩

theorem Sys2Proof.Laws.EncodedLength.unmapped7A :
    Sys2Proof.Laws.EncodedLength.Statement .unmapped7A := ⟨rfl, rfl⟩

theorem Sys2Proof.Laws.EncodedLength.unmapped7B :
    Sys2Proof.Laws.EncodedLength.Statement .unmapped7B := ⟨rfl, rfl⟩

theorem Sys2Proof.Laws.EncodedLength.unmapped7C :
    Sys2Proof.Laws.EncodedLength.Statement .unmapped7C := ⟨rfl, rfl⟩

theorem Sys2Proof.Laws.EncodedLength.unmapped7D :
    Sys2Proof.Laws.EncodedLength.Statement .unmapped7D := ⟨rfl, rfl⟩

theorem Sys2Proof.Laws.EncodedLength.unmapped7E :
    Sys2Proof.Laws.EncodedLength.Statement .unmapped7E := ⟨rfl, rfl⟩

theorem Sys2Proof.Laws.EncodedLength.unmapped7F :
    Sys2Proof.Laws.EncodedLength.Statement .unmapped7F := ⟨rfl, rfl⟩

theorem Sys2Proof.Laws.EncodedLength.unmapped80 :
    Sys2Proof.Laws.EncodedLength.Statement .unmapped80 := ⟨rfl, rfl⟩

theorem Sys2Proof.Laws.EncodedLength.unmapped81 :
    Sys2Proof.Laws.EncodedLength.Statement .unmapped81 := ⟨rfl, rfl⟩

theorem Sys2Proof.Laws.EncodedLength.unmapped82 :
    Sys2Proof.Laws.EncodedLength.Statement .unmapped82 := ⟨rfl, rfl⟩

theorem Sys2Proof.Laws.EncodedLength.unmapped83 :
    Sys2Proof.Laws.EncodedLength.Statement .unmapped83 := ⟨rfl, rfl⟩

theorem Sys2Proof.Laws.EncodedLength.unmapped84 :
    Sys2Proof.Laws.EncodedLength.Statement .unmapped84 := ⟨rfl, rfl⟩

theorem Sys2Proof.Laws.EncodedLength.unmapped85 :
    Sys2Proof.Laws.EncodedLength.Statement .unmapped85 := ⟨rfl, rfl⟩

theorem Sys2Proof.Laws.EncodedLength.unmapped86 :
    Sys2Proof.Laws.EncodedLength.Statement .unmapped86 := ⟨rfl, rfl⟩

theorem Sys2Proof.Laws.EncodedLength.unmapped87 :
    Sys2Proof.Laws.EncodedLength.Statement .unmapped87 := ⟨rfl, rfl⟩

theorem Sys2Proof.Laws.EncodedLength.unmapped88 :
    Sys2Proof.Laws.EncodedLength.Statement .unmapped88 := ⟨rfl, rfl⟩

theorem Sys2Proof.Laws.EncodedLength.unmapped89 :
    Sys2Proof.Laws.EncodedLength.Statement .unmapped89 := ⟨rfl, rfl⟩

theorem Sys2Proof.Laws.EncodedLength.unmapped8A :
    Sys2Proof.Laws.EncodedLength.Statement .unmapped8A := ⟨rfl, rfl⟩

theorem Sys2Proof.Laws.EncodedLength.unmapped8B :
    Sys2Proof.Laws.EncodedLength.Statement .unmapped8B := ⟨rfl, rfl⟩

theorem Sys2Proof.Laws.EncodedLength.unmapped8C :
    Sys2Proof.Laws.EncodedLength.Statement .unmapped8C := ⟨rfl, rfl⟩

theorem Sys2Proof.Laws.EncodedLength.unmapped8D :
    Sys2Proof.Laws.EncodedLength.Statement .unmapped8D := ⟨rfl, rfl⟩

theorem Sys2Proof.Laws.EncodedLength.unmapped8E :
    Sys2Proof.Laws.EncodedLength.Statement .unmapped8E := ⟨rfl, rfl⟩

theorem Sys2Proof.Laws.EncodedLength.unmapped8F :
    Sys2Proof.Laws.EncodedLength.Statement .unmapped8F := ⟨rfl, rfl⟩

theorem Sys2Proof.Laws.EncodedLength.unmapped90 :
    Sys2Proof.Laws.EncodedLength.Statement .unmapped90 := ⟨rfl, rfl⟩

theorem Sys2Proof.Laws.EncodedLength.unmapped91 :
    Sys2Proof.Laws.EncodedLength.Statement .unmapped91 := ⟨rfl, rfl⟩

theorem Sys2Proof.Laws.EncodedLength.unmapped92 :
    Sys2Proof.Laws.EncodedLength.Statement .unmapped92 := ⟨rfl, rfl⟩

theorem Sys2Proof.Laws.EncodedLength.unmapped93 :
    Sys2Proof.Laws.EncodedLength.Statement .unmapped93 := ⟨rfl, rfl⟩

theorem Sys2Proof.Laws.EncodedLength.unmapped94 :
    Sys2Proof.Laws.EncodedLength.Statement .unmapped94 := ⟨rfl, rfl⟩

theorem Sys2Proof.Laws.EncodedLength.unmapped95 :
    Sys2Proof.Laws.EncodedLength.Statement .unmapped95 := ⟨rfl, rfl⟩

theorem Sys2Proof.Laws.EncodedLength.unmapped96 :
    Sys2Proof.Laws.EncodedLength.Statement .unmapped96 := ⟨rfl, rfl⟩

theorem Sys2Proof.Laws.EncodedLength.unmapped97 :
    Sys2Proof.Laws.EncodedLength.Statement .unmapped97 := ⟨rfl, rfl⟩

theorem Sys2Proof.Laws.EncodedLength.unmapped98 :
    Sys2Proof.Laws.EncodedLength.Statement .unmapped98 := ⟨rfl, rfl⟩

theorem Sys2Proof.Laws.EncodedLength.unmapped99 :
    Sys2Proof.Laws.EncodedLength.Statement .unmapped99 := ⟨rfl, rfl⟩

theorem Sys2Proof.Laws.EncodedLength.unmapped9A :
    Sys2Proof.Laws.EncodedLength.Statement .unmapped9A := ⟨rfl, rfl⟩

theorem Sys2Proof.Laws.EncodedLength.unmapped9B :
    Sys2Proof.Laws.EncodedLength.Statement .unmapped9B := ⟨rfl, rfl⟩

theorem Sys2Proof.Laws.EncodedLength.unmapped9C :
    Sys2Proof.Laws.EncodedLength.Statement .unmapped9C := ⟨rfl, rfl⟩

theorem Sys2Proof.Laws.EncodedLength.unmapped9D :
    Sys2Proof.Laws.EncodedLength.Statement .unmapped9D := ⟨rfl, rfl⟩

theorem Sys2Proof.Laws.EncodedLength.unmapped9E :
    Sys2Proof.Laws.EncodedLength.Statement .unmapped9E := ⟨rfl, rfl⟩

theorem Sys2Proof.Laws.EncodedLength.unmapped9F :
    Sys2Proof.Laws.EncodedLength.Statement .unmapped9F := ⟨rfl, rfl⟩

theorem Sys2Proof.Laws.EncodedLength.unmappedA0 :
    Sys2Proof.Laws.EncodedLength.Statement .unmappedA0 := ⟨rfl, rfl⟩

theorem Sys2Proof.Laws.EncodedLength.unmappedA1 :
    Sys2Proof.Laws.EncodedLength.Statement .unmappedA1 := ⟨rfl, rfl⟩

theorem Sys2Proof.Laws.EncodedLength.unmappedA2 :
    Sys2Proof.Laws.EncodedLength.Statement .unmappedA2 := ⟨rfl, rfl⟩

theorem Sys2Proof.Laws.EncodedLength.unmappedA3 :
    Sys2Proof.Laws.EncodedLength.Statement .unmappedA3 := ⟨rfl, rfl⟩

theorem Sys2Proof.Laws.EncodedLength.unmappedA4 :
    Sys2Proof.Laws.EncodedLength.Statement .unmappedA4 := ⟨rfl, rfl⟩

theorem Sys2Proof.Laws.EncodedLength.unmappedA6 :
    Sys2Proof.Laws.EncodedLength.Statement .unmappedA6 := ⟨rfl, rfl⟩

theorem Sys2Proof.Laws.EncodedLength.unmappedA7 :
    Sys2Proof.Laws.EncodedLength.Statement .unmappedA7 := ⟨rfl, rfl⟩

theorem Sys2Proof.Laws.EncodedLength.unmappedA8 :
    Sys2Proof.Laws.EncodedLength.Statement .unmappedA8 := ⟨rfl, rfl⟩

theorem Sys2Proof.Laws.EncodedLength.unmappedAA :
    Sys2Proof.Laws.EncodedLength.Statement .unmappedAA := ⟨rfl, rfl⟩

theorem Sys2Proof.Laws.EncodedLength.unmappedAB :
    Sys2Proof.Laws.EncodedLength.Statement .unmappedAB := ⟨rfl, rfl⟩

theorem Sys2Proof.Laws.EncodedLength.unmappedAC :
    Sys2Proof.Laws.EncodedLength.Statement .unmappedAC := ⟨rfl, rfl⟩

theorem Sys2Proof.Laws.EncodedLength.unmappedAE :
    Sys2Proof.Laws.EncodedLength.Statement .unmappedAE := ⟨rfl, rfl⟩

theorem Sys2Proof.Laws.EncodedLength.unmappedAF :
    Sys2Proof.Laws.EncodedLength.Statement .unmappedAF := ⟨rfl, rfl⟩

theorem Sys2Proof.Laws.EncodedLength.unmappedB0 :
    Sys2Proof.Laws.EncodedLength.Statement .unmappedB0 := ⟨rfl, rfl⟩

theorem Sys2Proof.Laws.EncodedLength.unmappedB1 :
    Sys2Proof.Laws.EncodedLength.Statement .unmappedB1 := ⟨rfl, rfl⟩

theorem Sys2Proof.Laws.EncodedLength.unmappedB2 :
    Sys2Proof.Laws.EncodedLength.Statement .unmappedB2 := ⟨rfl, rfl⟩

theorem Sys2Proof.Laws.EncodedLength.unmappedB3 :
    Sys2Proof.Laws.EncodedLength.Statement .unmappedB3 := ⟨rfl, rfl⟩

theorem Sys2Proof.Laws.EncodedLength.unmappedB4 :
    Sys2Proof.Laws.EncodedLength.Statement .unmappedB4 := ⟨rfl, rfl⟩

theorem Sys2Proof.Laws.EncodedLength.unmappedB6 :
    Sys2Proof.Laws.EncodedLength.Statement .unmappedB6 := ⟨rfl, rfl⟩

theorem Sys2Proof.Laws.EncodedLength.unmappedB7 :
    Sys2Proof.Laws.EncodedLength.Statement .unmappedB7 := ⟨rfl, rfl⟩

theorem Sys2Proof.Laws.EncodedLength.unmappedB8 :
    Sys2Proof.Laws.EncodedLength.Statement .unmappedB8 := ⟨rfl, rfl⟩

theorem Sys2Proof.Laws.EncodedLength.unmappedB9 :
    Sys2Proof.Laws.EncodedLength.Statement .unmappedB9 := ⟨rfl, rfl⟩

theorem Sys2Proof.Laws.EncodedLength.unmappedBA :
    Sys2Proof.Laws.EncodedLength.Statement .unmappedBA := ⟨rfl, rfl⟩

theorem Sys2Proof.Laws.EncodedLength.unmappedBB :
    Sys2Proof.Laws.EncodedLength.Statement .unmappedBB := ⟨rfl, rfl⟩

theorem Sys2Proof.Laws.EncodedLength.unmappedBC :
    Sys2Proof.Laws.EncodedLength.Statement .unmappedBC := ⟨rfl, rfl⟩

theorem Sys2Proof.Laws.EncodedLength.unmappedBE :
    Sys2Proof.Laws.EncodedLength.Statement .unmappedBE := ⟨rfl, rfl⟩

theorem Sys2Proof.Laws.EncodedLength.unmappedBF :
    Sys2Proof.Laws.EncodedLength.Statement .unmappedBF := ⟨rfl, rfl⟩

theorem Sys2Proof.Laws.EncodedLength.unmappedC0 :
    Sys2Proof.Laws.EncodedLength.Statement .unmappedC0 := ⟨rfl, rfl⟩

theorem Sys2Proof.Laws.EncodedLength.unmappedC1 :
    Sys2Proof.Laws.EncodedLength.Statement .unmappedC1 := ⟨rfl, rfl⟩

theorem Sys2Proof.Laws.EncodedLength.unmappedC2 :
    Sys2Proof.Laws.EncodedLength.Statement .unmappedC2 := ⟨rfl, rfl⟩

theorem Sys2Proof.Laws.EncodedLength.unmappedC3 :
    Sys2Proof.Laws.EncodedLength.Statement .unmappedC3 := ⟨rfl, rfl⟩

theorem Sys2Proof.Laws.EncodedLength.unmappedC4 :
    Sys2Proof.Laws.EncodedLength.Statement .unmappedC4 := ⟨rfl, rfl⟩

theorem Sys2Proof.Laws.EncodedLength.unmappedC5 :
    Sys2Proof.Laws.EncodedLength.Statement .unmappedC5 := ⟨rfl, rfl⟩

theorem Sys2Proof.Laws.EncodedLength.unmappedC6 :
    Sys2Proof.Laws.EncodedLength.Statement .unmappedC6 := ⟨rfl, rfl⟩

theorem Sys2Proof.Laws.EncodedLength.unmappedC7 :
    Sys2Proof.Laws.EncodedLength.Statement .unmappedC7 := ⟨rfl, rfl⟩

theorem Sys2Proof.Laws.EncodedLength.unmappedC8 :
    Sys2Proof.Laws.EncodedLength.Statement .unmappedC8 := ⟨rfl, rfl⟩

theorem Sys2Proof.Laws.EncodedLength.unmappedC9 :
    Sys2Proof.Laws.EncodedLength.Statement .unmappedC9 := ⟨rfl, rfl⟩

theorem Sys2Proof.Laws.EncodedLength.unmappedCA :
    Sys2Proof.Laws.EncodedLength.Statement .unmappedCA := ⟨rfl, rfl⟩

theorem Sys2Proof.Laws.EncodedLength.unmappedCB :
    Sys2Proof.Laws.EncodedLength.Statement .unmappedCB := ⟨rfl, rfl⟩

theorem Sys2Proof.Laws.EncodedLength.unmappedCC :
    Sys2Proof.Laws.EncodedLength.Statement .unmappedCC := ⟨rfl, rfl⟩

theorem Sys2Proof.Laws.EncodedLength.unmappedCD :
    Sys2Proof.Laws.EncodedLength.Statement .unmappedCD := ⟨rfl, rfl⟩

theorem Sys2Proof.Laws.EncodedLength.unmappedCE :
    Sys2Proof.Laws.EncodedLength.Statement .unmappedCE := ⟨rfl, rfl⟩

theorem Sys2Proof.Laws.EncodedLength.unmappedCF :
    Sys2Proof.Laws.EncodedLength.Statement .unmappedCF := ⟨rfl, rfl⟩

theorem Sys2Proof.Laws.EncodedLength.unmappedD0 :
    Sys2Proof.Laws.EncodedLength.Statement .unmappedD0 := ⟨rfl, rfl⟩

theorem Sys2Proof.Laws.EncodedLength.unmappedD1 :
    Sys2Proof.Laws.EncodedLength.Statement .unmappedD1 := ⟨rfl, rfl⟩

theorem Sys2Proof.Laws.EncodedLength.unmappedD2 :
    Sys2Proof.Laws.EncodedLength.Statement .unmappedD2 := ⟨rfl, rfl⟩

theorem Sys2Proof.Laws.EncodedLength.unmappedD3 :
    Sys2Proof.Laws.EncodedLength.Statement .unmappedD3 := ⟨rfl, rfl⟩

theorem Sys2Proof.Laws.EncodedLength.unmappedD4 :
    Sys2Proof.Laws.EncodedLength.Statement .unmappedD4 := ⟨rfl, rfl⟩

theorem Sys2Proof.Laws.EncodedLength.unmappedD5 :
    Sys2Proof.Laws.EncodedLength.Statement .unmappedD5 := ⟨rfl, rfl⟩

theorem Sys2Proof.Laws.EncodedLength.unmappedD6 :
    Sys2Proof.Laws.EncodedLength.Statement .unmappedD6 := ⟨rfl, rfl⟩

theorem Sys2Proof.Laws.EncodedLength.unmappedD7 :
    Sys2Proof.Laws.EncodedLength.Statement .unmappedD7 := ⟨rfl, rfl⟩

theorem Sys2Proof.Laws.EncodedLength.unmappedD8 :
    Sys2Proof.Laws.EncodedLength.Statement .unmappedD8 := ⟨rfl, rfl⟩

theorem Sys2Proof.Laws.EncodedLength.unmappedD9 :
    Sys2Proof.Laws.EncodedLength.Statement .unmappedD9 := ⟨rfl, rfl⟩

theorem Sys2Proof.Laws.EncodedLength.unmappedDA :
    Sys2Proof.Laws.EncodedLength.Statement .unmappedDA := ⟨rfl, rfl⟩

theorem Sys2Proof.Laws.EncodedLength.unmappedDB :
    Sys2Proof.Laws.EncodedLength.Statement .unmappedDB := ⟨rfl, rfl⟩

theorem Sys2Proof.Laws.EncodedLength.unmappedDC :
    Sys2Proof.Laws.EncodedLength.Statement .unmappedDC := ⟨rfl, rfl⟩

theorem Sys2Proof.Laws.EncodedLength.unmappedDD :
    Sys2Proof.Laws.EncodedLength.Statement .unmappedDD := ⟨rfl, rfl⟩

theorem Sys2Proof.Laws.EncodedLength.unmappedDE :
    Sys2Proof.Laws.EncodedLength.Statement .unmappedDE := ⟨rfl, rfl⟩

theorem Sys2Proof.Laws.EncodedLength.unmappedDF :
    Sys2Proof.Laws.EncodedLength.Statement .unmappedDF := ⟨rfl, rfl⟩

theorem Sys2Proof.Laws.EncodedLength.unmappedE0 :
    Sys2Proof.Laws.EncodedLength.Statement .unmappedE0 := ⟨rfl, rfl⟩

theorem Sys2Proof.Laws.EncodedLength.unmappedE1 :
    Sys2Proof.Laws.EncodedLength.Statement .unmappedE1 := ⟨rfl, rfl⟩

theorem Sys2Proof.Laws.EncodedLength.unmappedE2 :
    Sys2Proof.Laws.EncodedLength.Statement .unmappedE2 := ⟨rfl, rfl⟩

theorem Sys2Proof.Laws.EncodedLength.unmappedE3 :
    Sys2Proof.Laws.EncodedLength.Statement .unmappedE3 := ⟨rfl, rfl⟩

theorem Sys2Proof.Laws.EncodedLength.unmappedE4 :
    Sys2Proof.Laws.EncodedLength.Statement .unmappedE4 := ⟨rfl, rfl⟩

theorem Sys2Proof.Laws.EncodedLength.unmappedE5 :
    Sys2Proof.Laws.EncodedLength.Statement .unmappedE5 := ⟨rfl, rfl⟩

theorem Sys2Proof.Laws.EncodedLength.unmappedE6 :
    Sys2Proof.Laws.EncodedLength.Statement .unmappedE6 := ⟨rfl, rfl⟩

theorem Sys2Proof.Laws.EncodedLength.unmappedE7 :
    Sys2Proof.Laws.EncodedLength.Statement .unmappedE7 := ⟨rfl, rfl⟩

theorem Sys2Proof.Laws.EncodedLength.unmappedE8 :
    Sys2Proof.Laws.EncodedLength.Statement .unmappedE8 := ⟨rfl, rfl⟩

theorem Sys2Proof.Laws.EncodedLength.unmappedE9 :
    Sys2Proof.Laws.EncodedLength.Statement .unmappedE9 := ⟨rfl, rfl⟩

theorem Sys2Proof.Laws.EncodedLength.unmappedEA :
    Sys2Proof.Laws.EncodedLength.Statement .unmappedEA := ⟨rfl, rfl⟩

theorem Sys2Proof.Laws.EncodedLength.unmappedEB :
    Sys2Proof.Laws.EncodedLength.Statement .unmappedEB := ⟨rfl, rfl⟩

theorem Sys2Proof.Laws.EncodedLength.unmappedEC :
    Sys2Proof.Laws.EncodedLength.Statement .unmappedEC := ⟨rfl, rfl⟩

theorem Sys2Proof.Laws.EncodedLength.unmappedED :
    Sys2Proof.Laws.EncodedLength.Statement .unmappedED := ⟨rfl, rfl⟩

theorem Sys2Proof.Laws.EncodedLength.unmappedEE :
    Sys2Proof.Laws.EncodedLength.Statement .unmappedEE := ⟨rfl, rfl⟩

theorem Sys2Proof.Laws.EncodedLength.unmappedEF :
    Sys2Proof.Laws.EncodedLength.Statement .unmappedEF := ⟨rfl, rfl⟩

theorem Sys2Proof.Laws.EncodedLength.unmappedF0 :
    Sys2Proof.Laws.EncodedLength.Statement .unmappedF0 := ⟨rfl, rfl⟩

theorem Sys2Proof.Laws.EncodedLength.unmappedF1 :
    Sys2Proof.Laws.EncodedLength.Statement .unmappedF1 := ⟨rfl, rfl⟩

theorem Sys2Proof.Laws.EncodedLength.unmappedF2 :
    Sys2Proof.Laws.EncodedLength.Statement .unmappedF2 := ⟨rfl, rfl⟩

theorem Sys2Proof.Laws.EncodedLength.unmappedF3 :
    Sys2Proof.Laws.EncodedLength.Statement .unmappedF3 := ⟨rfl, rfl⟩

theorem Sys2Proof.Laws.EncodedLength.unmappedF4 :
    Sys2Proof.Laws.EncodedLength.Statement .unmappedF4 := ⟨rfl, rfl⟩

theorem Sys2Proof.Laws.EncodedLength.unmappedF5 :
    Sys2Proof.Laws.EncodedLength.Statement .unmappedF5 := ⟨rfl, rfl⟩

theorem Sys2Proof.Laws.EncodedLength.unmappedF6 :
    Sys2Proof.Laws.EncodedLength.Statement .unmappedF6 := ⟨rfl, rfl⟩

theorem Sys2Proof.Laws.EncodedLength.unmappedF7 :
    Sys2Proof.Laws.EncodedLength.Statement .unmappedF7 := ⟨rfl, rfl⟩

theorem Sys2Proof.Laws.EncodedLength.unmappedF8 :
    Sys2Proof.Laws.EncodedLength.Statement .unmappedF8 := ⟨rfl, rfl⟩

theorem Sys2Proof.Laws.EncodedLength.unmappedF9 :
    Sys2Proof.Laws.EncodedLength.Statement .unmappedF9 := ⟨rfl, rfl⟩

theorem Sys2Proof.Laws.EncodedLength.unmappedFA :
    Sys2Proof.Laws.EncodedLength.Statement .unmappedFA := ⟨rfl, rfl⟩

theorem Sys2Proof.Laws.EncodedLength.unmappedFB :
    Sys2Proof.Laws.EncodedLength.Statement .unmappedFB := ⟨rfl, rfl⟩

theorem Sys2Proof.Laws.EncodedLength.unmappedFC :
    Sys2Proof.Laws.EncodedLength.Statement .unmappedFC := ⟨rfl, rfl⟩

theorem Sys2Proof.Laws.EncodedLength.unmappedFD :
    Sys2Proof.Laws.EncodedLength.Statement .unmappedFD := ⟨rfl, rfl⟩

theorem Sys2Proof.Laws.EncodedLength.unmappedFE :
    Sys2Proof.Laws.EncodedLength.Statement .unmappedFE := ⟨rfl, rfl⟩

theorem Sys2Proof.Laws.EncodedLength.unmappedFF :
    Sys2Proof.Laws.EncodedLength.Statement .unmappedFF := ⟨rfl, rfl⟩
end

