-- ==== Sys2Proof/Laws/Step.lean ====
section
/-!
SUPPORT. What a step can do, said once, and what the lifecycle operations leave alone.
-/

namespace Sys2Proof.Machine

theorem nextMove_nil {s : State} (h : s.agenda = []) : nextMove s = (.stream, s) := by
  simp [nextMove, h]

/-- A move taken off the agenda changes nothing else. -/
theorem nextMove_state (s : State) : (nextMove s).2 = { s with agenda := s.agenda.tail } := by
  unfold nextMove
  split
  · rename_i h
    cases s
    simp_all
  · rename_i h
    simp [h]

/-- Everything a step can answer with a next state. -/
theorem step_cases {s t : State} (h : step s = .next t) :
    (∃ r, (nextMove s).1 = .request r ∧ t = serve r (nextMove s).2) ∨
    ((nextMove s).1 = .stream ∧ s.run = .running ∧ ∃ u, execute (nextMove s).2 = .next u ∧ t = sampleDebug u) ∨
    ((nextMove s).1 = .stream ∧ s.run = .paused ∧ t = recheckDebug (nextMove s).2) ∨
    ((nextMove s).1 = .stream ∧ s.run ≠ .running ∧ s.run ≠ .paused ∧ t = (nextMove s).2) := by
  have hrun : (nextMove s).2.run = s.run := by rw [nextMove_state]
  unfold step at h
  generalize hm : nextMove s = p at h hrun ⊢
  obtain ⟨m, s'⟩ := p
  cases m with
  | request r =>
    cases h
    exact .inl ⟨r, rfl, rfl⟩
  | stream =>
    simp only at h hrun ⊢
    unfold streamMove at h
    split at h
    · rename_i hr
      unfold turn at h
      split at h
      · rename_i u hu
        cases h
        exact .inr (.inl ⟨trivial, hrun ▸ hr, u, hu, rfl⟩)
      · cases h
      · cases h
    · rename_i hr
      cases h
      exact .inr (.inr (.inl ⟨trivial, hrun ▸ hr, rfl⟩))
    all_goals
      rename_i hr
      cases h
      refine .inr (.inr (.inr ⟨trivial, ?_, ?_, rfl⟩)) <;> rw [← hrun, hr] <;> decide

/-- Everything the sample of the debug flag does: it parks the stream where the flag is set, and nothing else. -/
theorem sampleDebug_eq (s : State) :
    sampleDebug s = { s with
      paused := s.paused || s.dbg
      run := if s.dbg then .paused else s.run
      replies := if s.dbg then s.replies.map (Reply.settle true) else s.replies } := by
  unfold sampleDebug
  cases s
  split <;> simp_all [State.setPaused]

/-- Everything the re-check of the debug flag does: it resumes the stream where the flag is clear, and nothing else. -/
theorem recheckDebug_eq (s : State) :
    recheckDebug s = { s with
      paused := s.paused && s.dbg
      run := if s.dbg then s.run else .running
      replies := if s.dbg then s.replies else s.replies.map (Reply.settle false) } := by
  unfold recheckDebug
  cases s
  split <;> simp_all [State.setPaused]

/-- A next state of `execute()` is that of the decoded instruction, so its frame holds. -/
theorem execute_next {s t : State} (h : execute s = .next t) :
    ∃ bytes i rest, fetch params s = .ok bytes ∧ decode bytes = .ok i rest ∧ exec i s = .next t := by
  unfold execute at h
  split at h
  · cases h
  · rename_i bytes hb
    split at h
    · rename_i i rest hd
      exact ⟨bytes, i, rest, hb, hd, h⟩
    · cases h

/-- A request other than a reset writes the lifecycle fields and the replies alone. -/
theorem serve_eq {r : Request} (s : State) (h : ∀ image, r ≠ .reset image) : ∃ run paused dbg replies,
    serve r s = { s with run := run, paused := paused, dbg := dbg, replies := replies } := by
  cases r with
  | reset image => exact absurd rfl (h image)
  | start =>
    simp only [serve, serveStart]
    split <;> exact ⟨_, _, _, _, rfl⟩
  | debugToggle =>
    simp only [serve, serveDebugToggle]
    split
    · exact ⟨_, _, _, _, rfl⟩
    · split <;> exact ⟨_, _, _, _, rfl⟩
  | dispose =>
    simp only [serve, serveDispose]
    split <;> exact ⟨_, _, _, _, rfl⟩

/-- Everything a request does to the replies and to `paused`: it adds its own reply, and either leaves the others and
`paused`, or clears `paused` and completes the toggles that wait for 0. -/
theorem serve_replies (r : Request) (s : State) : ∃ q,
    ((serve r s).paused = s.paused ∧ (serve r s).replies = s.replies ++ [q]) ∨
    ((serve r s).paused = false ∧ (serve r s).replies = s.replies.map (Reply.settle false) ++ [q]) := by
  cases r with
  | reset image =>
    simp only [serve, serveReset]
    split
    · exact ⟨.done, .inl ⟨rfl, rfl⟩⟩
    · split
      · exact ⟨.done, .inr ⟨rfl, rfl⟩⟩
      · exact ⟨.configError, .inr ⟨rfl, rfl⟩⟩
  | start =>
    simp only [serve, serveStart]
    split <;> exact ⟨.done, .inl ⟨rfl, rfl⟩⟩
  | debugToggle =>
    simp only [serve, serveDebugToggle]
    split
    · exact ⟨.done, .inl ⟨rfl, rfl⟩⟩
    · split
      · exact ⟨.awaiting (!s.dbg), .inl ⟨rfl, rfl⟩⟩
      · exact ⟨.done, .inl ⟨rfl, rfl⟩⟩
  | dispose =>
    simp only [serve, serveDispose]
    split
    · exact ⟨.done, .inl ⟨rfl, rfl⟩⟩
    · exact ⟨.done, .inr ⟨rfl, rfl⟩⟩

/-- A run that begins with a step to `t` goes on from `t`. -/
theorem run_next (M : Host.Core) {n : Nat} {s t : M.State} (h : M.step s = .next t) : M.run (n + 1) s = M.run n t := by
  simp only [Host.Core.run, h]

/-- A stopped stream leaves registers, flags, counter, `dbg` and memory alone, and completes the toggles that wait for 0. -/
theorem stopStream_eq (s : State) : ∃ r,
    stopStream s = { s with paused := false, run := r, replies := s.replies.map (Reply.settle false) } ∧ r ≠ .running ∧ r ≠ .paused := by
  refine ⟨_, rfl, ?_, ?_⟩ <;> cases h : s.run <;> simp [State.active, h]

end Sys2Proof.Machine
end

