-- ==== Sys2Proof/Machine/Assembly.lean ====
section
/-!
DEFINITION. The assembler syntax the spec writes its examples in (R89): an instruction as a list of characters. No step
reads it.
-/

namespace Sys2Proof.Machine

/-- A hexadecimal digit. -/
def hexDigit (n : Nat) : Char :=
  ['0', '1', '2', '3', '4', '5', '6', '7', '8', '9', 'A', 'B', 'C', 'D', 'E', 'F'].getD (n % 16) '0'

/-- `$nn`: a byte in hexadecimal. -/
def hexByte (b : Byte) : List Char := [hexDigit (b.toNat / 16), hexDigit b.toNat]

/-- `$hhll` without the dollar sign: a word in hexadecimal. -/
def hexWord (w : Word) : List Char := hexByte (highByte w) ++ hexByte (lowByte w)

/-- The text of an instruction (R89). -/
def assembly (i : Instr) : List Char :=
  match i.operand? with
  | some (.immediate imm) => ['L', 'D', 'A', ' ', '#', '$'] ++ hexByte imm
  | some (.zeroPage zp) => ['L', 'D', 'A', ' ', '$'] ++ hexByte zp
  | some (.zeroPageIndexed zp _) => ['L', 'D', 'A', ' ', '$'] ++ hexByte zp ++ [',', 'X']
  | some (.absolute abs) => ['L', 'D', 'A', ' ', '$'] ++ hexWord abs
  | some (.absoluteIndexed abs _) => ['L', 'D', 'A', ' ', '$'] ++ hexWord abs ++ [',', 'X']
  | none => ['.', 'b', 'y', 't', 'e', ' ', '$'] ++ (encode i).flatMap hexByte

end Sys2Proof.Machine
end

