-- ==== Sys2Proof/Tests/Slice0.lean ====
section
/-!
SUPPORT. The model's own tests: expected values from spec/95_test_vectors.md (ids in the comments) and the encodings of
spec/opcode_table.json; the WellFormed smoke test; and for each statement with hypotheses a witness that meets them.
-/

namespace Sys2Proof.Tests

open Sys2Proof Sys2Proof.Machine

/-- A running core with `bytes` at 0x0100 and `data` (address, byte) written over the empty memory. -/
def code (bytes : List Byte) (data : List (Nat × Byte)) : State :=
  { State.reset with
    mem := data.foldl (fun m c => m.write c.1 c.2) (Memory.place 0x0100 bytes)
    run := .running }

/-- pc, A, Z, N and cyc of a next state. -/
def result (o : Host.Outcome State Fault Refusal) : Option (Word × Byte × Bool × Bool × Byte) :=
  match o with
  | .next t => some (t.pc, t.a, t.flagZ, t.flagN, t.cyc)
  | .fault _ => none
  | .refused _ => none

/-- The state of a next state, or the given one. -/
def after (o : Host.Outcome State Fault Refusal) (s : State) : State :=
  match o with
  | .next t => t
  | .fault _ => s
  | .refused _ => s

/-- The fault a run stopped with. -/
def faultOf (o : Host.Outcome State Fault Refusal) : Option Fault :=
  match o with
  | .next _ => none
  | .fault e => some e
  | .refused _ => none

/-! ### WellFormed -/

-- R53: the limit must exceed 256
theorem test_params_limit_256_refused : ({ params with memoryLimit := 256 } : Config.Params).wellFormed = false := by decide
-- R53: the limit must not exceed 65536
theorem test_params_limit_65537_refused : ({ params with memoryLimit := 65537 } : Config.Params).wellFormed = false := by
  decide
theorem test_params_taken_wellFormed : params.wellFormed = true := by decide
-- R85: the opcode bytes must be pairwise distinct
theorem test_equal_opcodes_refused : opcodesDistinct [0xA9, 0xA5, 0xB5, 0xAD, 0xA9] = false := by decide
theorem test_mapped_opcodes_distinct : opcodesDistinct mappedOpcodes = true := by decide
-- R61: an image one byte longer than the limit does not fit
theorem test_image_too_long_refused : imageFits 3 [1, 2, 3, 4] = false := by decide
-- R80: every instruction passes its check
theorem test_instruction_wellFormed : (Instr.ldaAbs 0xFFFF).wellFormed = true := by decide

/-! ### Decoding: the word of every row of spec/opcode_table.json -/

theorem test_decode_row_0 :
    ([[0x00], [0x01], [0x02], [0x03], [0x04], [0x05], [0x06], [0x07],
     [0x08], [0x09], [0x0A], [0x0B], [0x0C], [0x0D], [0x0E], [0x0F]] : List (List Byte)).map decode =
    [.ok .unmapped00 [], .ok .unmapped01 [], .ok .unmapped02 [], .ok .unmapped03 [],
     .ok .unmapped04 [], .ok .unmapped05 [], .ok .unmapped06 [], .ok .unmapped07 [],
     .ok .unmapped08 [], .ok .unmapped09 [], .ok .unmapped0A [], .ok .unmapped0B [],
     .ok .unmapped0C [], .ok .unmapped0D [], .ok .unmapped0E [], .ok .unmapped0F []] := by
  decide

theorem test_decode_row_1 :
    ([[0x10], [0x11], [0x12], [0x13], [0x14], [0x15], [0x16], [0x17],
     [0x18], [0x19], [0x1A], [0x1B], [0x1C], [0x1D], [0x1E], [0x1F]] : List (List Byte)).map decode =
    [.ok .unmapped10 [], .ok .unmapped11 [], .ok .unmapped12 [], .ok .unmapped13 [],
     .ok .unmapped14 [], .ok .unmapped15 [], .ok .unmapped16 [], .ok .unmapped17 [],
     .ok .unmapped18 [], .ok .unmapped19 [], .ok .unmapped1A [], .ok .unmapped1B [],
     .ok .unmapped1C [], .ok .unmapped1D [], .ok .unmapped1E [], .ok .unmapped1F []] := by
  decide

theorem test_decode_row_2 :
    ([[0x20], [0x21], [0x22], [0x23], [0x24], [0x25], [0x26], [0x27],
     [0x28], [0x29], [0x2A], [0x2B], [0x2C], [0x2D], [0x2E], [0x2F]] : List (List Byte)).map decode =
    [.ok .unmapped20 [], .ok .unmapped21 [], .ok .unmapped22 [], .ok .unmapped23 [],
     .ok .unmapped24 [], .ok .unmapped25 [], .ok .unmapped26 [], .ok .unmapped27 [],
     .ok .unmapped28 [], .ok .unmapped29 [], .ok .unmapped2A [], .ok .unmapped2B [],
     .ok .unmapped2C [], .ok .unmapped2D [], .ok .unmapped2E [], .ok .unmapped2F []] := by
  decide

theorem test_decode_row_3 :
    ([[0x30], [0x31], [0x32], [0x33], [0x34], [0x35], [0x36], [0x37],
     [0x38], [0x39], [0x3A], [0x3B], [0x3C], [0x3D], [0x3E], [0x3F]] : List (List Byte)).map decode =
    [.ok .unmapped30 [], .ok .unmapped31 [], .ok .unmapped32 [], .ok .unmapped33 [],
     .ok .unmapped34 [], .ok .unmapped35 [], .ok .unmapped36 [], .ok .unmapped37 [],
     .ok .unmapped38 [], .ok .unmapped39 [], .ok .unmapped3A [], .ok .unmapped3B [],
     .ok .unmapped3C [], .ok .unmapped3D [], .ok .unmapped3E [], .ok .unmapped3F []] := by
  decide

theorem test_decode_row_4 :
    ([[0x40], [0x41], [0x42], [0x43], [0x44], [0x45], [0x46], [0x47],
     [0x48], [0x49], [0x4A], [0x4B], [0x4C], [0x4D], [0x4E], [0x4F]] : List (List Byte)).map decode =
    [.ok .unmapped40 [], .ok .unmapped41 [], .ok .unmapped42 [], .ok .unmapped43 [],
     .ok .unmapped44 [], .ok .unmapped45 [], .ok .unmapped46 [], .ok .unmapped47 [],
     .ok .unmapped48 [], .ok .unmapped49 [], .ok .unmapped4A [], .ok .unmapped4B [],
     .ok .unmapped4C [], .ok .unmapped4D [], .ok .unmapped4E [], .ok .unmapped4F []] := by
  decide

theorem test_decode_row_5 :
    ([[0x50], [0x51], [0x52], [0x53], [0x54], [0x55], [0x56], [0x57],
     [0x58], [0x59], [0x5A], [0x5B], [0x5C], [0x5D], [0x5E], [0x5F]] : List (List Byte)).map decode =
    [.ok .unmapped50 [], .ok .unmapped51 [], .ok .unmapped52 [], .ok .unmapped53 [],
     .ok .unmapped54 [], .ok .unmapped55 [], .ok .unmapped56 [], .ok .unmapped57 [],
     .ok .unmapped58 [], .ok .unmapped59 [], .ok .unmapped5A [], .ok .unmapped5B [],
     .ok .unmapped5C [], .ok .unmapped5D [], .ok .unmapped5E [], .ok .unmapped5F []] := by
  decide

theorem test_decode_row_6 :
    ([[0x60], [0x61], [0x62], [0x63], [0x64], [0x65], [0x66], [0x67],
     [0x68], [0x69], [0x6A], [0x6B], [0x6C], [0x6D], [0x6E], [0x6F]] : List (List Byte)).map decode =
    [.ok .unmapped60 [], .ok .unmapped61 [], .ok .unmapped62 [], .ok .unmapped63 [],
     .ok .unmapped64 [], .ok .unmapped65 [], .ok .unmapped66 [], .ok .unmapped67 [],
     .ok .unmapped68 [], .ok .unmapped69 [], .ok .unmapped6A [], .ok .unmapped6B [],
     .ok .unmapped6C [], .ok .unmapped6D [], .ok .unmapped6E [], .ok .unmapped6F []] := by
  decide

theorem test_decode_row_7 :
    ([[0x70], [0x71], [0x72], [0x73], [0x74], [0x75], [0x76], [0x77],
     [0x78], [0x79], [0x7A], [0x7B], [0x7C], [0x7D], [0x7E], [0x7F]] : List (List Byte)).map decode =
    [.ok .unmapped70 [], .ok .unmapped71 [], .ok .unmapped72 [], .ok .unmapped73 [],
     .ok .unmapped74 [], .ok .unmapped75 [], .ok .unmapped76 [], .ok .unmapped77 [],
     .ok .unmapped78 [], .ok .unmapped79 [], .ok .unmapped7A [], .ok .unmapped7B [],
     .ok .unmapped7C [], .ok .unmapped7D [], .ok .unmapped7E [], .ok .unmapped7F []] := by
  decide

theorem test_decode_row_8 :
    ([[0x80], [0x81], [0x82], [0x83], [0x84], [0x85], [0x86], [0x87],
     [0x88], [0x89], [0x8A], [0x8B], [0x8C], [0x8D], [0x8E], [0x8F]] : List (List Byte)).map decode =
    [.ok .unmapped80 [], .ok .unmapped81 [], .ok .unmapped82 [], .ok .unmapped83 [],
     .ok .unmapped84 [], .ok .unmapped85 [], .ok .unmapped86 [], .ok .unmapped87 [],
     .ok .unmapped88 [], .ok .unmapped89 [], .ok .unmapped8A [], .ok .unmapped8B [],
     .ok .unmapped8C [], .ok .unmapped8D [], .ok .unmapped8E [], .ok .unmapped8F []] := by
  decide

theorem test_decode_row_9 :
    ([[0x90], [0x91], [0x92], [0x93], [0x94], [0x95], [0x96], [0x97],
     [0x98], [0x99], [0x9A], [0x9B], [0x9C], [0x9D], [0x9E], [0x9F]] : List (List Byte)).map decode =
    [.ok .unmapped90 [], .ok .unmapped91 [], .ok .unmapped92 [], .ok .unmapped93 [],
     .ok .unmapped94 [], .ok .unmapped95 [], .ok .unmapped96 [], .ok .unmapped97 [],
     .ok .unmapped98 [], .ok .unmapped99 [], .ok .unmapped9A [], .ok .unmapped9B [],
     .ok .unmapped9C [], .ok .unmapped9D [], .ok .unmapped9E [], .ok .unmapped9F []] := by
  decide

theorem test_decode_row_A :
    ([[0xA0], [0xA1], [0xA2], [0xA3], [0xA4], [0xA5, 0x81], [0xA6], [0xA7],
     [0xA8], [0xA9, 0x81], [0xAA], [0xAB], [0xAC], [0xAD, 0x34, 0x12], [0xAE], [0xAF]] : List (List Byte)).map decode =
    [.ok .unmappedA0 [], .ok .unmappedA1 [], .ok .unmappedA2 [], .ok .unmappedA3 [],
     .ok .unmappedA4 [], .ok (.ldaZp 0x81) [], .ok .unmappedA6 [], .ok .unmappedA7 [],
     .ok .unmappedA8 [], .ok (.ldaImm 0x81) [], .ok .unmappedAA [], .ok .unmappedAB [],
     .ok .unmappedAC [], .ok (.ldaAbs 0x1234) [], .ok .unmappedAE [], .ok .unmappedAF []] := by
  decide

theorem test_decode_row_B :
    ([[0xB0], [0xB1], [0xB2], [0xB3], [0xB4], [0xB5, 0x81], [0xB6], [0xB7],
     [0xB8], [0xB9], [0xBA], [0xBB], [0xBC], [0xBD, 0x34, 0x12], [0xBE], [0xBF]] : List (List Byte)).map decode =
    [.ok .unmappedB0 [], .ok .unmappedB1 [], .ok .unmappedB2 [], .ok .unmappedB3 [],
     .ok .unmappedB4 [], .ok (.ldaZpX 0x81) [], .ok .unmappedB6 [], .ok .unmappedB7 [],
     .ok .unmappedB8 [], .ok .unmappedB9 [], .ok .unmappedBA [], .ok .unmappedBB [],
     .ok .unmappedBC [], .ok (.ldaAbsX 0x1234) [], .ok .unmappedBE [], .ok .unmappedBF []] := by
  decide

theorem test_decode_row_C :
    ([[0xC0], [0xC1], [0xC2], [0xC3], [0xC4], [0xC5], [0xC6], [0xC7],
     [0xC8], [0xC9], [0xCA], [0xCB], [0xCC], [0xCD], [0xCE], [0xCF]] : List (List Byte)).map decode =
    [.ok .unmappedC0 [], .ok .unmappedC1 [], .ok .unmappedC2 [], .ok .unmappedC3 [],
     .ok .unmappedC4 [], .ok .unmappedC5 [], .ok .unmappedC6 [], .ok .unmappedC7 [],
     .ok .unmappedC8 [], .ok .unmappedC9 [], .ok .unmappedCA [], .ok .unmappedCB [],
     .ok .unmappedCC [], .ok .unmappedCD [], .ok .unmappedCE [], .ok .unmappedCF []] := by
  decide

theorem test_decode_row_D :
    ([[0xD0], [0xD1], [0xD2], [0xD3], [0xD4], [0xD5], [0xD6], [0xD7],
     [0xD8], [0xD9], [0xDA], [0xDB], [0xDC], [0xDD], [0xDE], [0xDF]] : List (List Byte)).map decode =
    [.ok .unmappedD0 [], .ok .unmappedD1 [], .ok .unmappedD2 [], .ok .unmappedD3 [],
     .ok .unmappedD4 [], .ok .unmappedD5 [], .ok .unmappedD6 [], .ok .unmappedD7 [],
     .ok .unmappedD8 [], .ok .unmappedD9 [], .ok .unmappedDA [], .ok .unmappedDB [],
     .ok .unmappedDC [], .ok .unmappedDD [], .ok .unmappedDE [], .ok .unmappedDF []] := by
  decide

theorem test_decode_row_E :
    ([[0xE0], [0xE1], [0xE2], [0xE3], [0xE4], [0xE5], [0xE6], [0xE7],
     [0xE8], [0xE9], [0xEA], [0xEB], [0xEC], [0xED], [0xEE], [0xEF]] : List (List Byte)).map decode =
    [.ok .unmappedE0 [], .ok .unmappedE1 [], .ok .unmappedE2 [], .ok .unmappedE3 [],
     .ok .unmappedE4 [], .ok .unmappedE5 [], .ok .unmappedE6 [], .ok .unmappedE7 [],
     .ok .unmappedE8 [], .ok .unmappedE9 [], .ok .unmappedEA [], .ok .unmappedEB [],
     .ok .unmappedEC [], .ok .unmappedED [], .ok .unmappedEE [], .ok .unmappedEF []] := by
  decide

theorem test_decode_row_F :
    ([[0xF0], [0xF1], [0xF2], [0xF3], [0xF4], [0xF5], [0xF6], [0xF7],
     [0xF8], [0xF9], [0xFA], [0xFB], [0xFC], [0xFD], [0xFE], [0xFF]] : List (List Byte)).map decode =
    [.ok .unmappedF0 [], .ok .unmappedF1 [], .ok .unmappedF2 [], .ok .unmappedF3 [],
     .ok .unmappedF4 [], .ok .unmappedF5 [], .ok .unmappedF6 [], .ok .unmappedF7 [],
     .ok .unmappedF8 [], .ok .unmappedF9 [], .ok .unmappedFA [], .ok .unmappedFB [],
     .ok .unmappedFC [], .ok .unmappedFD [], .ok .unmappedFE [], .ok .unmappedFF []] := by
  decide

-- R82: the byte after an unmapped opcode is left to be decoded as an opcode
theorem test_decode_leaves_the_next_byte : decode [0xA2, 0xA9, 0x10] = .ok .unmappedA2 [0xA9, 0x10] := by decide
theorem test_decode_truncated : decode [0xBD, 0x10] = .truncated := by decide
theorem test_table_word_low_byte_first : decodeTableWord 24 0x0110AD = some (.ldaAbs 0x0110) := by decide
theorem test_table_word_missing_operand_is_zero : decodeTableWord 8 0xA9 = some (.ldaImm 0x00) := by decide

/-! ### The instructions -/

-- S1
theorem test_lda_imm_s1 : result (step (code [0xA9, 0x10] [])) = some (0x0102, 0x10, false, false, 2) := by decide
-- I8: the operand is fetched from 0x0000
theorem test_lda_imm_i8 :
    result (step { code [] [(0xFFFF, 0xA9), (0x0000, 0x42)] with pc := 0xFFFF }) =
      some (0x0001, 0x42, false, false, 2) := by decide
-- S4
theorem test_lda_zp_s4 :
    result (step (code [0xA5, 0x10] [(0x0010, 0x01), (0x0110, 0xEE)])) = some (0x0102, 0x01, false, false, 3) := by decide
-- Z2
theorem test_lda_zp_z2 : result (step (code [0xA5, 0x00] [(0x0000, 0x80)])) = some (0x0102, 0x80, false, true, 3) := by decide
-- X4: the sum wraps inside the zero page
theorem test_lda_zpx_x4 :
    result (step { code [0xB5, 0xFF] [(0x0001, 0x22), (0x0101, 0xFF)] with x := 0x02 }) =
      some (0x0102, 0x22, false, false, 4) := by decide
-- X5
theorem test_lda_zpx_x5 :
    result (step { code [0xB5, 0x80] [(0x017F, 0x33)] with x := 0xFF }) = some (0x0102, 0x00, true, false, 4) := by decide
-- A1: low byte first
theorem test_lda_abs_a1 :
    result (step (code [0xAD, 0x10, 0x01] [(0x0110, 0x01), (0x1001, 0xEE)])) =
      some (0x0103, 0x01, false, false, 4) := by decide
-- A5: the operand straddles the top of memory
theorem test_lda_abs_a5 :
    result (step { code [] [(0xFFFE, 0xAD), (0xFFFF, 0x34), (0x0000, 0x12), (0x1234, 0x80)] with pc := 0xFFFE }) =
      some (0x0001, 0x80, false, true, 4) := by decide
-- B3: a page is crossed at no extra cycle
theorem test_lda_absx_b3 :
    result (step { code [0xBD, 0xFF, 0x01] [(0x0200, 0x44)] with x := 0x01 }) =
      some (0x0103, 0x44, false, false, 4) := by decide
-- B5: the sum wraps modulo 65536
theorem test_lda_absx_b5 :
    result (step { code [0xBD, 0xFF, 0xFF] [(0x0000, 0x11)] with x := 0x01 }) =
      some (0x0103, 0x11, false, false, 4) := by decide
-- U2
theorem test_unmapped_u2 : result (step (code [0xEA] [])) = some (0x0101, 0x00, false, false, 1) := by decide
-- U7
theorem test_unmapped_u7 : result (step { code [] [] with pc := 0xFFFF }) = some (0x0000, 0x00, false, false, 1) := by decide
-- U8: A and the carry stay
theorem test_unmapped_u8 :
    (after (step { code [0x4C] [] with a := 0x7F, flagC := true }) State.reset).flagC = true := by decide
-- I7: the other flags stay set
theorem test_lda_imm_i7 :
    (let t := after (step { code [0xA9, 0x00] [] with flagV := true, flagD := true, flagN := true }) State.reset
     (t.flagV, t.flagD, t.flagN, t.flagZ)) = (true, true, false, true) := by decide

/-! ### Alternatives of the open parameters -/

-- A6: ABS_ADDR_FETCH_CYCLES = 1
theorem test_abs_per_pair_a6 :
    result (perform params (loadProgram { params with absAddrFetch := .perPair } (.absolute 0x0110))
      (code [0xAD, 0x10, 0x01] [(0x0110, 0x01)])) = some (0x0103, 0x01, false, false, 3) := by decide
-- B8: EA_OVERFLOW = fault
theorem test_ea_overflow_b8 :
    faultOf (perform { params with eaOverflow := .fault } (loadProgram params (.absoluteIndexed 0xFFFF .X))
      { code [] [] with x := 0x01 }) = some .eaOverflow := by decide
-- P4 under PC_OVERFLOW = fault
theorem test_pc_overflow_p4 :
    faultOf (perform { params with pcOverflow := .fault } (loadProgram params (.immediate 0x42))
      { code [] [] with pc := 0xFFFF }) = some .pcOverflow := by decide
-- U3 of spec/93: a read at the limit
theorem test_read_at_limit_out_of_range :
    (match memRead { params with memoryLimit := 0x0200 } State.reset 0x0200 with
     | .error e => some e
     | .ok _ => none) = some .outOfRange := by decide

/-! ### Image load, reset and lifecycle -/

-- M2
theorem test_image_m2 : padImage 65536 [0xA9, 0x10] = some [(0x0100, 0xA9), (0x0101, 0x10)] := by decide
-- R62 at a limit of 260: 4 bytes still go behind the zero page, 5 are loaded at 0 (260 - 255 = 5), 261 do not fit
theorem test_image_last_short : padImage 260 [1, 2, 3, 4] = some [(256, 1), (257, 2), (258, 3), (259, 4)] := by decide
theorem test_image_first_long : padImage 260 [1, 2, 3, 0, 5] = some [(0, 1), (1, 2), (2, 3), (4, 5)] := by decide
theorem test_image_too_long : padImage 260 (List.replicate 261 1) = none := by
  unfold padImage
  rw [List.length_replicate]
  rfl
-- R3: dbg survives a reset
theorem test_reset_r3 :
    (serve (.reset [0xA9]) (serve .debugToggle State.reset)).dbg = true := by decide
-- R4: the launch liberty is undone by a reset
theorem test_reset_r4 :
    (let t := serve (.reset []) (launchWith 0xFF 0x12 0x01FF State.reset)
     (t.x, t.y, t.sp)) = (0, 0, 0) := by decide
-- L1, L2 and P5: one instruction, then parked; the resume runs none again
theorem test_pause_l1 :
    (let s := serve .start (serve .debugToggle (serve (.reset [0xA9, 0x01, 0xA9, 0x02]) State.reset))
     let t := after (step s) s
     (t.run, t.paused, t.a, t.pc, t.cyc)) = (.paused, true, 0x01, 0x0102, 2) := by decide
theorem test_resume_l2 :
    (let s := serve .start (serve .debugToggle (serve (.reset [0xA9, 0x01, 0xA9, 0x02]) State.reset))
     let t := serve .debugToggle (after (step s) s)
     let u := after (step t) t
     (t.replies, u.replies, u.run, u.pc, (after (step u) u).a)) =
      ([.done, .done, .done, .awaiting false], [.done, .done, .done, .done], .running, 0x0102, 0x02) := by decide
-- R160: a toggle still waits after a start that is rejected, and completes once the stream has parked
theorem test_toggle_waits_across_start :
    (let s := serve .start (serve .debugToggle (code [0xA9, 0x01] []))
     (s.replies, (after (step s) s).replies)) = ([.awaiting true, .done], [.done, .done]) := by decide
-- R160: the second of two quick toggles completes at once, the first waits for a pause that a third brings
theorem test_toggles_cancel_out :
    (let s := serve .debugToggle (serve .debugToggle (code [0xA9, 0x01] []))
     let t := serve .debugToggle (after (step s) s)
     (s.replies, t.replies, (after (step t) t).replies)) =
      ([.awaiting true, .done], [.awaiting true, .done, .awaiting true], [.done, .done, .done]) := by decide
-- L5
theorem test_start_unreset_l5 : (serve .start { State.reset with run := .unreset }).run = .unreset := by decide
-- L7
theorem test_dispose_paused_l7 :
    (let t := serve .dispose { State.reset with run := .paused, paused := true }
     (t.run, t.paused)) = (.disposed, false) := by decide
-- L8: a reset of a parked stream keeps dbg
theorem test_reset_paused_l8 :
    (let t := serve (.reset []) { State.reset with run := .paused, paused := true, dbg := true, a := 1 }
     (t.run, t.paused, t.dbg, t.a)) = (.stopped, false, true, 0) := by decide
-- L10
theorem test_disposed_l10 :
    (serve .start (serve (.reset []) (serve .dispose (serve .dispose State.reset)))).run = .disposed := by decide
-- an agenda of requests and stream moves: the request takes effect after the instruction before it
theorem test_agenda_order :
    (let s := { code [0xA9, 0x05] [] with agenda := [.stream, .request .dispose] }
     let t := after (step s) s
     let u := after (step t) t
     (t.a, t.run, u.a, u.run)) = (0x05, .running, 0x05, .disposed) := by decide
-- R164: a racy read between the opcode fetch and the operand fetch
theorem test_racy_pc :
    (instants (code [0xA9, 0x10] [])).map (fun s => s.pc) =
      [0x0100, 0x0100, 0x0101, 0x0101, 0x0101, 0x0102, 0x0102, 0x0102, 0x0102, 0x0102] := by decide
-- R108
theorem test_read_sequence_zpx :
    readSequence (.ldaZpX 0xFF) { State.reset with x := 0x02 } = [0x0100, 0x0101, 0x0001] := by decide
-- R88
theorem test_descriptor_absx :
    (descriptor (.ldaAbsX 0)).map (fun d => (d.opcode, d.length, d.cycles, d.operandBytes)) =
      some (0xBD, 3, 4, 2) := by decide
-- R89
theorem test_assembly_absx :
    assembly (.ldaAbsX 0x010F) = ['L', 'D', 'A', ' ', '$', '0', '1', '0', 'F', ',', 'X'] := by decide
theorem test_assembly_unmapped : assembly .unmappedEA = ['.', 'b', 'y', 't', 'e', ' ', '$', 'E', 'A'] := by decide
-- the host's placing: a 24-bit word across the top of memory is run by the next step
theorem test_withFetchWord_wraps :
    result (step (({ State.reset with pc := 0xFFFF } : State).withFetchWord 16 0x42A9)) =
      some (0x0001, 0x42, false, false, 2) := by decide

/-! ### Witnesses: for each statement with hypotheses, a state and operands that meet them -/

/-- The outcome is a next state. -/
def isNext (o : Host.Outcome State Fault Refusal) : Bool :=
  match o with
  | .next _ => true
  | .fault _ => false
  | .refused _ => false

theorem next_of {o : Host.Outcome State Fault Refusal} (h : isNext o = true) : ∃ t, o = .next t := by
  cases o with
  | next t => exact ⟨t, rfl⟩
  | fault e => cases h
  | refused r => cases h

/-- An image of any length. -/
def imageOf (n : Nat) : List Byte := List.replicate n 0xA9

theorem imageOf_length (n : Nat) : (imageOf n).length = n := List.length_replicate

theorem witness_LdaImmediateLoadsItsOperand :
    (code [0xA9, 0x10] []).run ≠ .unreset ∧ (code [0xA9, 0x10] []).read (code [0xA9, 0x10] []).pc = opcLdaImm := by decide
theorem witness_LdaZeroPageLoadsFromZeroPage :
    (code [0xA5, 0xFF] [(0x00FF, 0x7F)]).run ≠ .unreset ∧
      (code [0xA5, 0xFF] [(0x00FF, 0x7F)]).read 0x0100 = opcLdaZp ∧
      (code [0xA5, 0xFF] [(0x00FF, 0x7F)]).read ((0xFF : Byte).setWidth 16) = 0x7F := by decide
theorem witness_LdaZeroPageXWrapsInZeroPage :
    (let s := { code [0xB5, 0xFF] [(0x0000, 0x80)] with x := 0x01 }
     s.run ≠ .unreset ∧ s.read s.pc = opcLdaZpX ∧ s.read ((s.read (s.pc + 1) + s.x).setWidth 16) = 0x80) := by decide
theorem witness_LdaAbsoluteLoadsLittleEndian :
    (let s := code [0xAD, 0x10, 0x01] [(0x0110, 0x01)]
     s.run ≠ .unreset ∧ s.read s.pc = opcLdaAbs ∧ s.read (s.read (s.pc + 2) ++ s.read (s.pc + 1)) = 0x01) := by decide
theorem witness_LdaAbsoluteXAddsSixteenBits :
    (let s := { code [0xBD, 0xFF, 0xFF] [(0x0000, 0x11)] with x := 0x01 }
     s.run ≠ .unreset ∧ s.read s.pc = opcLdaAbsX ∧
       s.read ((s.read (s.pc + 2) ++ s.read (s.pc + 1)) + s.x.setWidth 16) = 0x11) := by decide
theorem witness_UnmappedOpcodeIsOneByteNoOp :
    Instr.unmapped00.operand? = none ∧ Instr.unmappedFF.operand? = none ∧
      State.reset.run ≠ .unreset ∧ State.reset.read State.reset.pc ∉ mappedOpcodes := by decide

/-- A load and an unmapped instruction that complete: for the statements about every completed instruction (InstructionFrame,
ProgramCounterAdvancesByLength, CycleTotalsOfEveryInstruction, UnreadStateHasNoInfluence, and the first, second and fourth
clause of ZeroAndNegativeDescribeTheLastLoad). -/
theorem witness_completed_instructions :
    (Instr.ldaImm 0x80).operand? ≠ none ∧ (∃ t, exec (.ldaImm 0x80) State.reset = .next t) ∧
      Instr.unmapped00.operand? = none ∧ ∃ t, exec .unmapped00 State.reset = .next t :=
  ⟨by decide, next_of (by decide), rfl, next_of (by decide)⟩
theorem witness_ExecuteRaisesNothing : State.reset.run ≠ .unreset := by decide
theorem witness_UnresetStateFaultsTheRead : ({ State.reset with run := .unreset } : State).run = .unreset := rfl
theorem witness_ZeroAndNegativeDescribeTheLastLoad_reset :
    State.reset.run ≠ .disposed ∧ ([] : List Byte).length ≤ 65536 := by decide
theorem witness_ZeroAndNegativeDescribeTheLastLoad_step :
    (∀ image, (nextMove (code [0xA9, 0x80] [])).1 ≠ .request (.reset image)) ∧
      Safety.LoadedFlags { code [0xA9, 0x80] [] with flagZ := true } ∧
      ∃ t, step { code [0xA9, 0x80] [] with flagZ := true } = .next t :=
  ⟨fun _ h => (nomatch h), by decide, next_of (by decide)⟩
theorem witness_ResultRestsOnTheAccessSequenceAlone :
    currentInstr (code [0xA5, 0x10] []) = some (.ldaZp 0x10) ∧
      readSequence (.ldaZp 0x10) (code [0xA5, 0x10] []) = [0x0100, 0x0101, 0x0010] ∧
      (∀ q ∈ [(0x0100 : Word), 0x0101, 0x0010],
        Memory.read [(0x0100, 0xA5), (0x0101, 0x10), (0x0102, 0x77)] q.toNat = (code [0xA5, 0x10] []).read q) ∧
      isNext (execute (code [0xA5, 0x10] [])) = true := by
  simp only [List.forall_mem_cons]
  exact ⟨by decide, by decide, ⟨by decide, by decide, by decide, by simp⟩, by decide⟩
theorem witness_AccessSequenceOfEveryInstruction_loads :
    currentInstr (code [0xA9, 0x10] []) = some (.ldaImm 0x10) ∧
      currentInstr (code [0xA5, 0xFF] []) = some (.ldaZp 0xFF) ∧
      currentInstr (code [0xB5, 0xFF] []) = some (.ldaZpX 0xFF) ∧
      currentInstr (code [0xAD, 0xFF, 0xFF] []) = some (.ldaAbs 0xFFFF) :=
  ⟨by decide, by decide, by decide, by decide⟩
theorem witness_AccessSequenceOfEveryInstruction_others :
    currentInstr (code [0xBD, 0xFF, 0xFF] []) = some (.ldaAbsX 0xFFFF) ∧
      currentInstr (code [0xEA] []) = some .unmappedEA ∧ isNext (execute (code [0xEA] [])) = true :=
  ⟨by decide, by decide, by decide⟩
theorem witness_MemWriteSetsOneByte :
    State.reset.mem.wf = true ∧ (code [0xA9, 0x10] []).mem.wf = true ∧ (0xFFFF : Word) ≠ 0x0000 := by decide
theorem witness_ImagePaddingLaw :
    256 < 260 ∧ ([1, 2, 3, 4] : List Byte).length < 260 - 255 ∧ 260 - 255 ≤ ([1, 2, 3, 4, 5] : List Byte).length ∧
      ([1, 2, 3, 4, 5] : List Byte).length ≤ 260 ∧ 260 < (imageOf 261).length := by
  rw [imageOf_length]
  decide
theorem witness_DecodeAndEncodeAreInverse : decode [0xA9, 0x10, 0x20] = .ok (.ldaImm 0x10) [0x20] := by decide
theorem witness_EveryOtherByteIsUnmapped : (0x00 : Byte) ∉ mappedOpcodes ∧ encode .unmapped00 = [0x00] := by decide
theorem witness_DescriptorTableAgreesWithTheMachine :
    (∃ d, descriptor (.ldaImm 0) = some d) ∧ ∃ t, exec (.ldaImm 0) State.reset = .next t :=
  ⟨⟨_, rfl⟩, next_of (by decide)⟩
theorem witness_StepRunsTheDecodedInstruction :
    (let s := { code [0xAD, 0x10, 0x01] [] with agenda := [.stream, .request .start] }
     (nextMove s).1 = .stream ∧ s.run = .running ∧
       decode [s.read s.pc, s.read (s.pc + 1), s.read (s.pc + 2)] = .ok (.ldaAbs 0x0110) []) := by decide
theorem witness_RequestsActBetweenInstructions :
    (code [] []).run = .running ∧ ({ code [] [] with agenda := [.request .dispose] } : State).agenda = [.request .dispose] ∧
      (nextMove State.reset).1 = .stream ∧ State.reset.run ≠ .running ∧ State.reset.run ≠ .paused := by decide
theorem witness_StreamRunsUntilTheCallerActs :
    (code [0xA9] []).run = .running ∧ (code [0xA9] []).dbg = false ∧ (code [0xA9] []).agenda = [] := by decide
theorem witness_UnmappedMemoryIsASledOfNoOps :
    (code [] []).run = .running ∧ (code [] []).dbg = false ∧ (code [] []).agenda = [] ∧
      ∀ q : Word, (code [] []).read q ∉ mappedOpcodes :=
  ⟨rfl, rfl, rfl, fun _ h => absurd (show (0 : Byte) ∈ mappedOpcodes from h) (by decide)⟩
theorem witness_EveryStepKeepsTheInvariant :
    Safety.Inv { code [0xA9, 0x10] [] with dbg := true, replies := [.awaiting true] } ∧
      ∃ t, step { code [0xA9, 0x10] [] with dbg := true, replies := [.awaiting true] } = .next t :=
  ⟨by decide, next_of (by decide)⟩
theorem witness_CycleCounterStaysWithinFour :
    (∀ image, (nextMove (code [0xA9, 0x10] [])).1 = .request (.reset image) → image.length ≤ 65536) ∧
      (code [0xA9, 0x10] []).cyc.toNat ≤ 4 ∧ (∃ t, step (code [0xA9, 0x10] []) = .next t) ∧
      code [0xA9, 0x10] [] ∈ instants (code [0xA9, 0x10] []) :=
  ⟨fun _ h => (nomatch h), by decide, next_of (by decide), List.mem_cons_self⟩
theorem witness_OnlyResetWritesTheInertState :
    (∀ image, (nextMove (code [0xBD, 0x10, 0x01] [])).1 ≠ .request (.reset image)) ∧
      ∃ t, step (code [0xBD, 0x10, 0x01] []) = .next t := ⟨fun _ h => (nomatch h), next_of (by decide)⟩
theorem witness_LifecycleMovesLeaveTheProgramState :
    (let s := { State.reset with run := .paused, paused := true }
     (∀ image, (nextMove s).1 ≠ .request (.reset image)) ∧ ((nextMove s).1 = .stream → s.run ≠ .running) ∧
       ∃ t, step s = .next t) := ⟨fun _ h => (nomatch h), fun _ => by decide, next_of (by decide)⟩
theorem witness_LifecycleTransitions :
    State.reset.run ≠ .disposed ∧ ([0xA9] : List Byte).length ≤ 65536 ∧
      65536 < (imageOf 65537).length ∧
      ({ State.reset with run := .disposed } : State).run = .disposed ∧
      (∃ t, (code [] []).run = .running ∧ streamMove (code [] []) = .next t) ∧
      (∃ t, streamMove { State.reset with run := .paused } = .next t) ∧
      State.reset.run ≠ .running ∧ State.reset.run ≠ .paused ∧ ∃ t, streamMove State.reset = .next t :=
  ⟨by decide, by decide, by rw [imageOf_length]; decide, rfl, (next_of (by decide)).imp fun _ h => ⟨rfl, h⟩, next_of (by decide), by decide, by decide, next_of (by decide)⟩

/-- For ResetEstablishesTheResetState, ResetTwiceIsResetOnce and FirstOpcodeAfterResetAndStart: a running state and images at
the boundary of the two placements. -/
theorem witness_successful_reset :
    (code [0xA9] []).run ≠ .disposed ∧ (imageOf 65280).length ≤ 65280 ∧ 65280 < (imageOf 65281).length ∧
      (imageOf 65281).length ≤ 65536 ∧ ((0x00FF : Word).toNat < 256) := by
  rw [imageOf_length, imageOf_length]
  decide
theorem witness_OversizedImageIsTheOnlyConfigurationError :
    State.reset.run ≠ .disposed ∧ 65536 < (imageOf 65537).length ∧
      (serve (.reset (imageOf 65537)) State.reset).replies.getLast? = some .configError := by
  have hn : padImage params.memoryLimit (imageOf 65537) = none := by
    unfold padImage
    rw [imageOf_length, show params.memoryLimit = 65536 from rfl, if_neg (by omega), if_neg (by omega)]
  refine ⟨by decide, by rw [imageOf_length]; decide, ?_⟩
  simp only [serve, serveReset, hn]
  rfl
theorem witness_StartOnlyWhenStopped : State.reset.run = .stopped ∧ (code [] []).run ≠ .stopped := by decide
theorem witness_DebugToggleInvertsTheRequest :
    State.reset.run ≠ .disposed ∧ State.reset.active = false ∧ (code [] []).active = true ∧
      ({ State.reset with run := .disposed } : State).run = .disposed ∧
      ∃ t, step { State.reset with agenda := [.request .debugToggle] } = .next t :=
  ⟨by decide, by decide, by decide, rfl, ⟨_, rfl⟩⟩
/-- A toggle that waits, before a rejected start and before a move of the stream, running and parked. -/
theorem witness_WaitingTogglesCompleteWhenPausedAgrees :
    (let s := { code [0xA9, 0x10] [] with dbg := true, replies := [.done, .awaiting true], agenda := [.request .start] }
     Safety.Inv s ∧ s.replies[1]? = some (.awaiting s.dbg) ∧ s.active = true ∧ (∃ t, step s = .next t) ∧
       ∃ t, streamMove s = .next t) ∧
    (let s := { code [0xA9, 0x10] [] with run := .paused, paused := true, replies := [.awaiting false] }
     Safety.Inv s ∧ s.replies[0]? = some (.awaiting s.dbg) ∧ s.active = true ∧ ∃ t, streamMove s = .next t) :=
  ⟨⟨by decide, rfl, by decide, ⟨_, rfl⟩, next_of (by decide)⟩, ⟨by decide, rfl, by decide, ⟨_, rfl⟩⟩⟩
theorem witness_PauseFallsOnAnInstructionBoundary :
    (code [] []).run = .running ∧ ({ State.reset with dbg := true } : State).run = .stopped ∧
      ({ State.reset with dbg := true } : State).dbg = true ∧
      ({ State.reset with run := .paused, dbg := true } : State).run = .paused := by decide
theorem witness_ResumeRunsTheNextInstruction :
    ({ State.reset with run := .paused, paused := true } : State).run = .paused ∧
      ({ State.reset with run := .paused, paused := true } : State).dbg = false := by decide
theorem witness_DisposeIsTerminal :
    (code [] []).run ≠ .disposed ∧ (∃ t, step { State.reset with run := .disposed } = .next t) ∧
      ∃ t, step { State.reset with run := .disposed, agenda := [.request .start] } = .next t :=
  ⟨by decide, next_of (by decide), next_of (by decide)⟩
theorem witness_CancelledStreamIsGone : (code [] []).active = true ∧ (code [] []).run ≠ .disposed := by decide
theorem witness_LaunchLibertySetsIndexAndStackOnly : State.reset.run = .stopped ∧ (code [] []).run ≠ .stopped := by decide
theorem witness_SnapshotsAreConsistentWhenNothingMoves :
    State.reset.run = .stopped ∧ ({ State.reset with run := .paused } : State).run = .paused ∧
      (code [] []).run = .running := by decide
theorem witness_RacyReadIsAValueTheFieldHeld :
    (code [0xA9, 0x10] []).run = .running ∧ (∃ t, execute (code [0xA9, 0x10] []) = .next t) ∧
      code [0xA9, 0x10] [] ∈ instants (code [0xA9, 0x10] []) := ⟨rfl, next_of (by decide), List.mem_cons_self⟩
theorem witness_PcOverflowWrapsOrFaults :
    (0x0000 : Word) ≠ 0xFFFF ∧ ({ params with pcOverflow := .fault } : Config.Params).pcOverflow = .fault ∧
      ({ State.reset with pc := 0xFFFF } : State).run ≠ .unreset := by decide
theorem witness_EaOverflowFaultsExactlyPastTheTop :
    (code [] []).run ≠ .unreset ∧ 0xFFFF < (0xFFFF : Word).toNat + (0x01 : Byte).toNat ∧
      ¬ 0xFFFF < (0xFFFE : Word).toNat + (0x01 : Byte).toNat := by decide
theorem witness_AddressFetchPolicyChangesOnlyTheCount :
    (∃ t, exec (.ldaAbs 0x0110) State.reset = .next t) ∧ ∃ t, exec (.ldaAbsX 0x0110) State.reset = .next t :=
  ⟨next_of (by decide), next_of (by decide)⟩
theorem witness_ReadsBeyondASmallerLimitFault :
    State.reset.run ≠ .unreset ∧ ({ params with memoryLimit := 0x0200 } : Config.Params).memoryLimit ≤ (0x0200 : Word).toNat ∧
      (0x01FF : Word).toNat < ({ params with memoryLimit := 0x0200 } : Config.Params).memoryLimit := by decide

end Sys2Proof.Tests
end

section
/-!
PROOFS. What an instruction that completes has done (R100, R120, R140), and from it how pc advances (R26) and what becomes of
flag.Z and flag.N (R29).
-/

namespace Sys2Proof

theorem Instr.length_of_operand {i : Instr} {f : Operand} (hf : i.operand? = some f) : i.length = f.length := by
  simp only [Instr.length, hf]

theorem Instr.length_of_no_operand {i : Instr} (hf : i.operand? = none) : i.length = 1 := by
  simp only [Instr.length, hf]

end Sys2Proof

namespace Sys2Proof.Machine

/-! ### An instruction by its operand -/

theorem exec_of_operand {i : Instr} {f : Operand} {s : State} {v : Byte} (hf : i.operand? = some f)
    (hs : s.run ≠ .unreset) (hv : operandValue params s f = .ok v) :
    exec i s = .next { s with
      pc := s.pc + BitVec.ofNat 16 f.length, cyc := loadCycles f,
      a := v, flagZ := zeroFlag v, flagN := negativeFlag v } := by
  rw [exec_eq_operand, hf]
  exact loadAccumulator_params hs hv

theorem exec_of_no_operand {i : Instr} {s : State} (hf : i.operand? = none) (hs : s.run ≠ .unreset) :
    exec i s = .next { s with pc := s.pc + 1, cyc := 1 } := by
  rw [exec_eq_operand, hf]
  exact noOperation_params hs

/-- Everything an instruction can answer with a next state: the load of its operand's value, or the one-byte no-op. -/
theorem exec_next {i : Instr} {s t : State} (h : exec i s = .next t) :
    s.run ≠ .unreset ∧
      ((∃ f v, i.operand? = some f ∧ operandValue params s f = .ok v ∧
        t = { s with
          pc := s.pc + BitVec.ofNat 16 f.length, cyc := loadCycles f,
          a := v, flagZ := zeroFlag v, flagN := negativeFlag v }) ∨
      (i.operand? = none ∧ t = { s with pc := s.pc + 1, cyc := 1 })) := by
  have hs : s.run ≠ .unreset := (perform_next (exec_eq_perform i s ▸ h)).1
  refine ⟨hs, ?_⟩
  cases hf : i.operand? with
  | some f =>
    have hv := operandValue_params hs f
    rw [exec_of_operand hf hs hv] at h
    cases h
    exact .inl ⟨f, _, rfl, hv, rfl⟩
  | none =>
    rw [exec_of_no_operand hf hs] at h
    cases h
    exact .inr ⟨rfl, rfl⟩

/-! ### The program counter (R26) -/

theorem exec_pc {i : Instr} {s t : State} (h : exec i s = .next t) : t.pc = s.pc + BitVec.ofNat 16 i.length := by
  obtain ⟨-, ⟨f, v, hf, -, rfl⟩ | ⟨hf, rfl⟩⟩ := exec_next h
  · rw [Instr.length_of_operand hf]
  · rw [Instr.length_of_no_operand hf]
    rfl

/-- Settles O9: the inversion of `exec` gives the advance; each length is that of the operand form. -/
theorem programCounterAdvancesByLength : Obligations.ProgramCounterAdvancesByLength := by
  unfold Obligations.ProgramCounterAdvancesByLength
  exact ⟨fun _ _ _ => exec_pc, fun _ => Instr.length_of_no_operand, fun _ => ⟨rfl, rfl, rfl⟩, fun _ => ⟨rfl, rfl⟩⟩

/-! ### flag.Z and flag.N (R29) -/

/-- No operand's value rests on the two flags. -/
theorem operandValue_flags (P : Config.Params) (s : State) (z n : Bool) (f : Operand) :
    operandValue P { s with flagZ := z, flagN := n } f = operandValue P s f := by cases f <;> rfl

theorem exec_load_loadedFlags {i : Instr} {s t : State} (hi : i.operand? ≠ none) (h : exec i s = .next t) :
    Safety.LoadedFlags t := by
  obtain ⟨-, ⟨f, v, -, -, rfl⟩ | ⟨hf, -⟩⟩ := exec_next h
  · exact ⟨rfl, rfl⟩
  · exact absurd hf hi

/-- An unmapped opcode leaves the accumulator and the two flags. -/
theorem exec_unmapped_flags {i : Instr} {s t : State} (hi : i.operand? = none) (h : exec i s = .next t) :
    t.a = s.a ∧ t.flagZ = s.flagZ ∧ t.flagN = s.flagN := by
  obtain ⟨-, ⟨f, v, hf, -, -⟩ | ⟨-, rfl⟩⟩ := exec_next h
  · cases hi.symm.trans hf
  · exact ⟨rfl, rfl, rfl⟩

theorem exec_keeps_loadedFlags {i : Instr} {s t : State} (hs : Safety.LoadedFlags s) (h : exec i s = .next t) :
    Safety.LoadedFlags t := by
  by_cases hi : i.operand? = none
  · obtain ⟨ha, hz, hn⟩ := exec_unmapped_flags hi h
    rwa [Safety.LoadedFlags, ha, hz, hn]
  · exact exec_load_loadedFlags hi h

/-- An instruction reads neither flag: with others before it, a load ends in the same state, and an unmapped opcode leaves
them. -/
theorem exec_with_flags {i : Instr} {s t : State} (z n : Bool) (h : exec i s = .next t) :
    exec i { s with flagZ := z, flagN := n } =
      .next (if i.operand? = none then { t with flagZ := z, flagN := n } else t) := by
  obtain ⟨hs, ⟨f, v, hf, hv, rfl⟩ | ⟨hf, rfl⟩⟩ := exec_next h
  · rw [if_neg (by simp [hf])]
    exact exec_of_operand hf hs ((operandValue_flags ..).trans hv)
  · rw [if_pos hf]
    exact exec_of_no_operand hf hs

theorem padImage_of_le {limit : Nat} {image : List Byte} (h : image.length ≤ limit) :
    ∃ m, padImage limit image = some m := by
  simp only [padImage, if_pos h]
  split <;> exact ⟨_, rfl⟩

theorem serve_reset_of_fits {image : List Byte} {s : State} (hs : s.run ≠ .disposed) (h : image.length ≤ 65536) :
    ∃ m, padImage params.memoryLimit image = some m ∧
      serve (.reset image) s = (installReset m (stopStream s)).answer .done := by
  obtain ⟨m, hm⟩ := padImage_of_le (limit := params.memoryLimit) h
  exact ⟨m, hm, by simp only [serve, serveReset, hs, if_false, hm]⟩

/-- No step but a reset ends the agreement: only an instruction writes the accumulator or the two flags. -/
theorem step_keeps_loadedFlags {s t : State} (hr : ∀ image, (nextMove s).1 ≠ .request (.reset image))
    (hs : Safety.LoadedFlags s) (h : step s = .next t) : Safety.LoadedFlags t := by
  have hs' : Safety.LoadedFlags (nextMove s).2 := by rwa [nextMove_state]
  obtain ⟨r, hm, rfl⟩ | ⟨-, -, u, hu, rfl⟩ | ⟨-, -, rfl⟩ | ⟨-, -, -, rfl⟩ := step_cases h
  · obtain ⟨_, _, _, _, he⟩ := serve_eq (r := r) (nextMove s).2 fun image hi => hr image (hi ▸ hm)
    rwa [he]
  · obtain ⟨_, i, _, -, -, hi⟩ := execute_next hu
    have hl := exec_keeps_loadedFlags hs' hi
    rwa [sampleDebug_eq]
  · rwa [recheckDebug_eq]
  · exact hs'

/-- Settles O13: an instruction and a step are taken apart by their inversion lemmas, a reset by its end state. -/
theorem zeroAndNegativeDescribeTheLastLoad : Obligations.ZeroAndNegativeDescribeTheLastLoad := by
  unfold Obligations.ZeroAndNegativeDescribeTheLastLoad
  refine ⟨fun _ _ _ => exec_load_loadedFlags, fun _ _ _ hi h => (exec_unmapped_flags hi h).2, ?_,
    fun _ _ _ => exec_with_flags, fun _ _ => step_keeps_loadedFlags⟩
  intro image s hs hl
  obtain ⟨m, -, he⟩ := serve_reset_of_fits hs hl
  rw [he]
  exact ⟨rfl, rfl⟩

end Sys2Proof.Machine
end

section
/-!
PROOFS. What a placed byte sequence reads as and which cells it has, and from it the image load (R61).
-/

namespace Sys2Proof.Machine

/-! ### A cell in front of a memory -/

/-- The cell of an unlisted byte is left out, so the memory behind it has to read as unlisted there already. -/
theorem Memory.read_listed {k : Nat} {v : Byte} {m : Memory} (hm : m.read k = Memory.unlisted) (a : Nat) :
    (Memory.listed k v m).read a = if k = a then v else m.read a := by
  unfold Memory.listed
  split
  · next hv =>
    split
    · next ha => rw [← ha, hm, hv]
    · rfl
  · rfl

theorem Memory.mem_listed {k : Nat} {v : Byte} {m : Memory} {c : Nat × Byte} (h : c ∈ Memory.listed k v m) :
    c = (k, v) ∨ c ∈ m := by
  unfold Memory.listed at h
  split at h
  · exact .inr h
  · exact List.mem_cons.mp h

/-! ### A placed byte sequence -/

/-- Every byte of the sequence stands at its address; below and behind the sequence all is zero. -/
theorem Memory.read_place : ∀ (bytes : List Byte) (base a : Nat),
    (Memory.place base bytes).read a = if a < base then 0 else bytes.getD (a - base) 0
  | [], _, _ => (ite_self _).symm
  | b :: bytes, base, a => by
    have hfree : (Memory.place (base + 1) bytes).read base = Memory.unlisted := by
      rw [Memory.read_place bytes, if_pos (Nat.lt_succ_self base)]
      rfl
    rw [Memory.place, Memory.read_listed hfree, Memory.read_place bytes]
    obtain hlt | rfl | hgt := Nat.lt_trichotomy a base
    · rw [if_neg (by omega), if_pos (by omega), if_pos hlt]
    · simp
    · obtain ⟨n, rfl⟩ := Nat.exists_eq_add_of_lt hgt
      rw [if_neg (by omega), if_neg (by omega), if_neg (by omega), show base + n + 1 - (base + 1) = n by omega,
        show base + n + 1 - base = n + 1 by omega, List.getD_cons_succ]

/-- No cell of a placed sequence stands behind its end. -/
theorem Memory.place_lt_end : ∀ {bytes : List Byte} {base : Nat} {c : Nat × Byte},
    c ∈ Memory.place base bytes → c.1 < base + bytes.length
  | b :: bytes, base, c, h => by
    simp only [List.length_cons]
    obtain rfl | hc := Memory.mem_listed h
    · show base < _
      omega
    · have := Memory.place_lt_end hc
      omega

/-! ### The image load (R61) -/

theorem padImage_of_short {limit : Nat} {image : List Byte} (h : image.length < limit - 255) :
    padImage limit image = some (Memory.place 256 image) := if_pos h

theorem padImage_of_long {limit : Nat} {image : List Byte} (hlo : limit - 255 ≤ image.length)
    (hhi : image.length ≤ limit) : padImage limit image = some (Memory.place 0 image) := by
  rw [padImage, if_neg (by omega), if_pos hhi]

theorem padImage_of_lt {limit : Nat} {image : List Byte} (h : limit < image.length) :
    padImage limit image = none := by
  rw [padImage, if_neg (by omega), if_neg (by omega)]

/-- Settles O19: each range of lengths fixes the placement, and a placed sequence reads as R61 says. -/
theorem imagePaddingLaw : Obligations.ImagePaddingLaw := by
  unfold Obligations.ImagePaddingLaw
  intro limit image _
  exact ⟨fun h => ⟨_, padImage_of_short h, Memory.read_place image 256,
      fun _ hc => (Memory.place_lt_end hc).trans_le (by omega)⟩,
    fun hlo hhi => ⟨_, padImage_of_long hlo hhi, Memory.read_place image 0,
      fun _ hc => (Memory.place_lt_end hc).trans_le (by omega)⟩,
    padImage_of_lt⟩

end Sys2Proof.Machine
end

section
/-!
PROOFS. `execute()` at an opcode with a byte operand (R80, R82, R100), and from it the end states of the immediate and the two
zero-page loads (R121, R122, R123).
-/

namespace Sys2Proof.Machine

/-- The operand of a two-byte format is the byte behind the opcode. -/
theorem execute_of_opB {s : State} {mk : Byte → Instr} (hs : s.run ≠ .unreset) (hrow : rowOf (s.read s.pc) = .opB mk) :
    execute s = exec (mk (s.read (s.pc + 1))) s := by
  have hlen : lengthOf (s.read s.pc) = 2 := by rw [lengthOf, hrow, Row.length]
  have hfetch : fetch params s = .ok [s.read s.pc, s.read (s.pc + 1)] := by rw [fetch_params hs, hlen]; rfl
  have hdecode : decode [s.read s.pc, s.read (s.pc + 1)] = .ok (mk (s.read (s.pc + 1))) [] := by
    simp only [decode, hrow]
  simp only [execute, hfetch, hdecode]

/-- Settles O1: a load whose value is its own operand, and that operand is the byte behind the opcode. -/
theorem ldaImmediateLoadsItsOperand : Obligations.LdaImmediateLoadsItsOperand := by
  unfold Obligations.LdaImmediateLoadsItsOperand
  have hexec (imm : Byte) (s : State) (hs : s.run ≠ .unreset) :=
    exec_of_operand (i := .ldaImm imm) rfl hs (operandValue_params hs (.immediate imm))
  refine ⟨hexec, fun s hs hop => ?_⟩
  rw [execute_of_opB hs (hop ▸ rowOf_opcLdaImm)]
  exact hexec _ s hs

/-- Settles O2: a load whose value is the byte at the zero-extended operand. -/
theorem ldaZeroPageLoadsFromZeroPage : Obligations.LdaZeroPageLoadsFromZeroPage := by
  unfold Obligations.LdaZeroPageLoadsFromZeroPage
  have hexec (zp : Byte) (s : State) (hs : s.run ≠ .unreset) :=
    exec_of_operand (i := .ldaZp zp) rfl hs (operandValue_params hs (.zeroPage zp))
  refine ⟨hexec, ?_⟩
  rintro s _ hs hop rfl
  rw [execute_of_opB hs (hop ▸ rowOf_opcLdaZp)]
  exact hexec _ s hs

/-- Settles O3: a load whose value is the byte at the zero-extended 8-bit sum of operand and X. -/
theorem ldaZeroPageXWrapsInZeroPage : Obligations.LdaZeroPageXWrapsInZeroPage := by
  unfold Obligations.LdaZeroPageXWrapsInZeroPage
  have hexec (zp : Byte) (s : State) (hs : s.run ≠ .unreset) :=
    exec_of_operand (i := .ldaZpX zp) rfl hs (operandValue_params hs (.zeroPageIndexed zp .X))
  constructor
  · rintro zp s _ hs rfl
    exact hexec zp s hs
  · rintro s _ hs hop rfl
    rw [execute_of_opB hs (hop ▸ rowOf_opcLdaZpX)]
    exact hexec _ s hs

end Sys2Proof.Machine
end

section
/-!
PROOFS. `execute()` completes and keeps the lifecycle (R100, R180), a move of the stream (R155), and from them the entry into
the park (R157).
-/

namespace Sys2Proof.Machine

/-! ### `execute()` completes -/

/-- The bytes that byte 0 asks for are enough for the decoder. -/
theorem decode_fetched (s : State) (p : Word) :
    ∃ i rest, decode ((addressesFrom p (lengthOf (s.read p))).map s.read) = .ok i rest := by
  cases hrow : rowOf (s.read p) <;>
    simp [lengthOf, hrow, Row.length, addressesFrom, decode]

theorem exists_exec_next (i : Instr) {s : State} (hs : s.run ≠ .unreset) : ∃ t, exec i s = .next t := by
  cases hf : i.operand? with
  | some f => exact ⟨_, exec_of_operand hf hs (operandValue_params hs f)⟩
  | none => exact ⟨_, exec_of_no_operand hf hs⟩

theorem exists_execute_next {s : State} (hs : s.run ≠ .unreset) : ∃ t, execute s = .next t := by
  obtain ⟨i, rest, hd⟩ := decode_fetched s s.pc
  obtain ⟨t, ht⟩ := exists_exec_next i hs
  exact ⟨t, by simp only [execute, fetch_params hs, hd, ht]⟩

theorem execute_frame {s t : State} (h : execute s = .next t) : SameOutside s t := by
  obtain ⟨_, i, _, -, -, hi⟩ := execute_next h
  obtain ⟨-, hframe, -⟩ := perform_next (exec_eq_perform i s ▸ hi)
  exact hframe

/-! ### A move of the stream -/

theorem streamMove_of_running {s t : State} (hs : s.run = .running) (h : execute s = .next t) :
    streamMove s = .next (sampleDebug t) := by
  simp only [streamMove, hs, turn, h]

theorem streamMove_of_paused {s : State} (hs : s.run = .paused) : streamMove s = .next (recheckDebug s) := by
  simp only [streamMove, hs]

/-- The parked stream stays parked while the flag is set. -/
theorem streamMove_of_parked {s : State} (hs : s.run = .paused) (hd : s.dbg = true) : streamMove s = .next s := by
  rw [streamMove_of_paused hs, recheckDebug, if_pos hd]

/-- A turn of the running stream completes, and what it adds to its instruction is the sample of the flag that stood before
it. -/
theorem exists_turn_of_running {s : State} (hs : s.run = .running) : ∃ t u, execute s = .next t ∧
    streamMove s = .next u ∧ u = { t with
      run := if s.dbg then .paused else .running
      paused := if s.dbg then true else t.paused
      replies := u.replies } := by
  obtain ⟨t, ht⟩ := exists_execute_next (s := s) (by simp [hs])
  have hframe := execute_frame ht
  refine ⟨t, sampleDebug t, ht, streamMove_of_running hs ht, ?_⟩
  rw [sampleDebug_eq, hframe.dbg, hframe.run, hs]
  cases s.dbg <;> simp

theorem serve_start_of_stopped {s : State} (hs : s.run = .stopped) :
    serve .start s = { s.answer .done with run := .running } := by
  simp only [serve, serveStart, hs, if_true]

/-- Settles O44: the first move after `start()` is a turn of the running stream, and the state it ends in is parked. -/
theorem pauseFallsOnAnInstructionBoundary : Obligations.PauseFallsOnAnInstructionBoundary := by
  unfold Obligations.PauseFallsOnAnInstructionBoundary
  refine ⟨fun _ => exists_turn_of_running, ?_, fun _ => streamMove_of_parked⟩
  intro s hs hd
  have hstart := serve_start_of_stopped hs
  have hdbg : (serve .start s).dbg = true := by rw [hstart]; exact hd
  obtain ⟨t, u, ht, hu, hpark⟩ := exists_turn_of_running (s := serve .start s) (by rw [hstart])
  simp only [hdbg, if_true] at hpark
  have hrun : u.run = .paused := by rw [hpark]
  have hset : u.dbg = true := by rw [hpark]; exact (execute_frame ht).dbg.trans hdbg
  exact ⟨t, u, ht, hu, hpark, streamMove_of_parked hrun hset⟩

end Sys2Proof.Machine
end

section
/-!
PROOFS. Decoding and encoding (R80 to R86): the decoder by the row of byte 0, the length byte 0 gives, and the inverse laws.
-/

namespace Sys2Proof

/-! ### The decoder by the row of byte 0 -/

theorem decode_of_op {op : Byte} {i : Instr} (h : rowOf op = .op i) (rest : List Byte) :
    decode (op :: rest) = .ok i rest := by
  simp only [decode, h]

theorem decode_of_opB {op : Byte} {mk : Byte → Instr} (h : rowOf op = .opB mk) (b : Byte) (rest : List Byte) :
    decode (op :: b :: rest) = .ok (mk b) rest := by
  simp only [decode, h]

theorem decode_of_opW {op : Byte} {mk : Word → Instr} (h : rowOf op = .opW mk) (lo hi : Byte) (rest : List Byte) :
    decode (op :: lo :: hi :: rest) = .ok (mk (littleEndian lo hi)) rest := by
  simp only [decode, h]

/-- An encoded instruction decodes to itself whatever follows it. -/
theorem decode_encode_append (i : Instr) (rest : List Byte) : decode (encode i ++ rest) = .ok i rest := by
  cases i
  case ldaAbs abs => exact (decode_of_opW rowOf_opcLdaAbs _ _ rest).trans (by rw [littleEndian_bytes])
  case ldaAbsX abs => exact (decode_of_opW rowOf_opcLdaAbsX _ _ rest).trans (by rw [littleEndian_bytes])
  all_goals rfl

/-- A decoded two-byte instruction came from its opcode and the byte behind it. -/
theorem decode_opB_inv {op : Byte} {mk : Byte → Instr} (hrow : rowOf op = .opB mk) {tail rest : List Byte} {i : Instr}
    (h : decode (op :: tail) = .ok i rest) : ∃ b, i = mk b ∧ tail = b :: rest := by
  cases tail with
  | nil => simp only [decode, hrow] at h; cases h
  | cons b tail =>
    rw [decode_of_opB hrow] at h
    cases h
    exact ⟨b, rfl, rfl⟩

/-- A decoded three-byte instruction came from its opcode and the two bytes behind it. -/
theorem decode_opW_inv {op : Byte} {mk : Word → Instr} (hrow : rowOf op = .opW mk) {tail rest : List Byte} {i : Instr}
    (h : decode (op :: tail) = .ok i rest) : ∃ lo hi, i = mk (littleEndian lo hi) ∧ tail = lo :: hi :: rest := by
  match tail with
  | [] => simp only [decode, hrow] at h; cases h
  | [_] => simp only [decode, hrow] at h; cases h
  | lo :: hi :: tail =>
    rw [decode_of_opW hrow] at h
    cases h
    exact ⟨lo, hi, rfl, rfl⟩

/-- Bytes that decode are the encoding of the instruction and the bytes left over. -/
theorem eq_encode_of_decode {bytes rest : List Byte} {i : Instr} (h : decode bytes = .ok i rest) :
    bytes = encode i ++ rest := by
  cases bytes with
  | nil => cases h
  | cons op tail =>
    obtain rfl | rfl | rfl | rfl | rfl | ⟨j, hrow, henc, -⟩ := rowOf_cases op
    · obtain ⟨b, rfl, rfl⟩ := decode_opB_inv rowOf_opcLdaImm h
      rfl
    · obtain ⟨b, rfl, rfl⟩ := decode_opB_inv rowOf_opcLdaZp h
      rfl
    · obtain ⟨b, rfl, rfl⟩ := decode_opB_inv rowOf_opcLdaZpX h
      rfl
    · obtain ⟨lo, hi, rfl, rfl⟩ := decode_opW_inv rowOf_opcLdaAbs h
      simp only [encode, lowByte_littleEndian, highByte_littleEndian, List.cons_append, List.nil_append]
    · obtain ⟨lo, hi, rfl, rfl⟩ := decode_opW_inv rowOf_opcLdaAbsX h
      simp only [encode, lowByte_littleEndian, highByte_littleEndian, List.cons_append, List.nil_append]
    · rw [decode_of_op hrow] at h
      cases h
      rw [henc, List.singleton_append]

/-- Settles O20: both directions follow the row of byte 0; an address operand is put together again from its two bytes. -/
theorem decodeAndEncodeAreInverse : Obligations.DecodeAndEncodeAreInverse := by
  unfold Obligations.DecodeAndEncodeAreInverse
  exact ⟨decode_encode_append, fun _ _ _ => eq_encode_of_decode⟩

/-! ### The length byte 0 gives (R82) -/

theorem encode_length (i : Instr) : (encode i).length = i.length := by cases i <;> rfl

theorem Instr.length_bounds (i : Instr) : 1 ≤ i.length ∧ i.length ≤ 3 := by
  rw [Instr.length]
  cases i.operand? with
  | none => decide
  | some f => cases f <;> simp only [Operand.length] <;> decide

/-- Byte 0 of an encoding gives the length of the instruction. -/
theorem lengthOf_encode {i : Instr} {op : Byte} (h : (encode i).head? = some op) : lengthOf op = i.length := by
  cases i <;> cases h <;> rfl

/-- Three bytes always decode, and byte 0 says how many of them are taken. -/
theorem exists_decode_three (op b1 b2 : Byte) (rest : List Byte) : ∃ i,
    decode (op :: b1 :: b2 :: rest) = .ok i ((op :: b1 :: b2 :: rest).drop (lengthOf op)) ∧ i.length = lengthOf op := by
  have hdec : ∃ i rest', decode (op :: b1 :: b2 :: rest) = .ok i rest' := by
    cases hrow : rowOf op with
    | op i => exact ⟨_, _, decode_of_op hrow _⟩
    | opB mk => exact ⟨_, _, decode_of_opB hrow _ _⟩
    | opW mk => exact ⟨_, _, decode_of_opW hrow _ _ _⟩
  obtain ⟨i, rest', hd⟩ := hdec
  have hb := eq_encode_of_decode hd
  have hhead : (encode i).head? = some op := by
    have hne : encode i ≠ [] := by cases i <;> nofun
    rw [← List.head?_append_of_ne_nil _ hne, ← hb, List.head?_cons]
  have hlen := lengthOf_encode hhead
  refine ⟨i, ?_, hlen.symm⟩
  rw [hd, hb, hlen, ← encode_length, List.drop_left]

/-- The lengths in numbers, by the opcode bytes of log entry 1. -/
theorem lengthOf_eq (op : Byte) :
    lengthOf op = if op ∈ [0xA9, 0xA5, 0xB5] then 2 else if op ∈ [0xAD, 0xBD] then 3 else 1 := by
  by_cases hm : op ∈ mappedOpcodes
  · simp only [mappedOpcodes, List.mem_cons, List.not_mem_nil, or_false] at hm
    obtain rfl | rfl | rfl | rfl | rfl := hm <;> rfl
  · obtain ⟨i, hrow, -, -⟩ := rowOf_unmapped hm
    have htwo : [0xA9, 0xA5, 0xB5] ⊆ mappedOpcodes := by decide
    have hthree : [0xAD, 0xBD] ⊆ mappedOpcodes := by decide
    rw [if_neg fun h => hm (htwo h), if_neg fun h => hm (hthree h), lengthOf, hrow, Row.length]

/-- Settles O21: three bytes always decode, and the bytes taken are those byte 0 asks for. -/
theorem opcodeAloneGivesTheLength : Obligations.OpcodeAloneGivesTheLength := by
  unfold Obligations.OpcodeAloneGivesTheLength
  intro op b1 b2 rest
  rw [← lengthOf_eq]
  exact exists_decode_three op b1 b2 rest

/-! ### The bytes outside the five (R86) -/

/-- No two instructions have one encoding. -/
theorem encode_injective : Function.Injective encode := by
  intro i j h
  have hi := decode_encode_append i []
  rw [h, decode_encode_append j []] at hi
  cases hi
  rfl

/-- Settles O22: the row of an unmapped byte, and that the encoding is injective. -/
theorem everyOtherByteIsUnmapped : Obligations.EveryOtherByteIsUnmapped := by
  unfold Obligations.EveryOtherByteIsUnmapped
  refine ⟨by decide, rfl, fun op rest hop => ?_⟩
  obtain ⟨i, hrow, henc, hnone⟩ := rowOf_unmapped hop
  exact ⟨i, hnone, decode_of_op hrow rest, henc, fun j hj => encode_injective (hj.trans henc.symm)⟩

/-- Settles O23: each word is its row's instruction with the bytes behind it. -/
theorem sampleWordsDecode : Obligations.SampleWordsDecode := by
  unfold Obligations.SampleWordsDecode
  decide

end Sys2Proof
end

section
/-!
PROOFS. The end states of the absolute loads and of the unmapped opcodes (R124, R125, R140), and what holds of every
instruction: its frame, its cycle total, its completion, the stop before the first reset, and what it does not read.
-/

namespace Sys2Proof.Machine

/-! ### The absolute loads -/

/-- The operand of a three-byte format is the address whose low byte comes first. -/
theorem execute_of_opW {s : State} {mk : Word → Instr} (hs : s.run ≠ .unreset) (hrow : rowOf (s.read s.pc) = .opW mk) :
    execute s = exec (mk (s.read (s.pc + 2) ++ s.read (s.pc + 1))) s := by
  have hlen : lengthOf (s.read s.pc) = 3 := by rw [lengthOf, hrow, Row.length]
  have hpc : s.pc + 1 + 1 = s.pc + 2 := BitVec.add_assoc ..
  have hfetch : fetch params s = .ok [s.read s.pc, s.read (s.pc + 1), s.read (s.pc + 2)] := by
    rw [fetch_params hs, hlen, ← hpc]
    rfl
  simp only [execute, hfetch, decode_of_opW hrow, littleEndian]

/-- Settles O4: a load whose value is the byte at its operand, and that operand is the address behind the opcode. -/
theorem ldaAbsoluteLoadsLittleEndian : Obligations.LdaAbsoluteLoadsLittleEndian := by
  unfold Obligations.LdaAbsoluteLoadsLittleEndian
  have hexec (abs : Word) (s : State) (hs : s.run ≠ .unreset) :=
    exec_of_operand (i := .ldaAbs abs) rfl hs (operandValue_params hs (.absolute abs))
  refine ⟨hexec, ?_⟩
  rintro s _ hs hop rfl
  rw [execute_of_opW hs (hop ▸ rowOf_opcLdaAbs)]
  exact hexec _ s hs

/-- Settles O5: a load whose value is the byte at the 16-bit sum of operand and X. -/
theorem ldaAbsoluteXAddsSixteenBits : Obligations.LdaAbsoluteXAddsSixteenBits := by
  unfold Obligations.LdaAbsoluteXAddsSixteenBits
  have hexec (abs : Word) (s : State) (hs : s.run ≠ .unreset) :=
    exec_of_operand (i := .ldaAbsX abs) rfl hs (operandValue_params hs (.absoluteIndexed abs .X))
  constructor
  · rintro abs s _ hs rfl
    exact hexec abs s hs
  · rintro s _ hs hop rfl
    rw [execute_of_opW hs (hop ▸ rowOf_opcLdaAbsX)]
    exact hexec _ s hs

/-! ### The unmapped opcodes -/

theorem execute_of_op {s : State} {i : Instr} (hs : s.run ≠ .unreset) (hrow : rowOf (s.read s.pc) = .op i) :
    execute s = exec i s := by
  have hlen : lengthOf (s.read s.pc) = 1 := by rw [lengthOf, hrow, Row.length]
  have hfetch : fetch params s = .ok [s.read s.pc] := by
    rw [fetch_params hs, hlen]
    rfl
  simp only [execute, hfetch, decode_of_op hrow]

theorem execute_of_unmapped {s : State} (hs : s.run ≠ .unreset) (hop : s.read s.pc ∉ mappedOpcodes) :
    execute s = .next { s with pc := s.pc + 1, cyc := 1 } := by
  obtain ⟨i, hrow, -, hnone⟩ := rowOf_unmapped hop
  rw [execute_of_op hs hrow, exec_of_no_operand hnone hs]

/-- Settles O6: an instruction without an operand is the one-byte no-op, and so is each byte outside the five. -/
theorem unmappedOpcodeIsOneByteNoOp : Obligations.UnmappedOpcodeIsOneByteNoOp := by
  unfold Obligations.UnmappedOpcodeIsOneByteNoOp
  exact ⟨fun _ _ => exec_of_no_operand, fun _ => execute_of_unmapped⟩

/-! ### LoadA (R120) -/

/-- Settles O7: three writes from one value; the value 0 has bit 7 clear. -/
theorem loadEffectWritesAccumulatorZeroNegative : Obligations.LoadEffectWritesAccumulatorZeroNegative := by
  unfold Obligations.LoadEffectWritesAccumulatorZeroNegative
  refine fun P l => ⟨rfl, fun ⟨hzero, hneg⟩ => ?_⟩
  rw [eq_of_beq hzero] at hneg
  cases hneg

/-! ### Every instruction -/

theorem exec_frame {i : Instr} {s t : State} (h : exec i s = .next t) : SameOutside s t := by
  obtain ⟨-, hframe, -⟩ := perform_next (exec_eq_perform i s ▸ h)
  exact hframe

theorem SameOutside.read {s t : State} (h : SameOutside s t) (q : Word) : t.read q = s.read q := by
  rw [State.read, h.mem, State.read]

/-- Settles O8: the frame of the assignments, and that an unmapped opcode leaves A, Z and N too. -/
theorem instructionFrame : Obligations.InstructionFrame := by
  unfold Obligations.InstructionFrame
  intro i s t h
  have k := exec_frame h
  exact ⟨⟨k.sp, k.x, k.y⟩, ⟨k.flagC, k.flagI, k.flagD, k.flagB, k.flagV⟩, ⟨k.run, k.paused, k.dbg⟩,
    ⟨k.agenda, k.replies, k.free⟩, k.mem, k.read, fun hi => exec_unmapped_flags hi h⟩

/-- The cyc an instruction ends with (R107). -/
theorem exec_cyc {i : Instr} {s t : State} (h : exec i s = .next t) :
    t.cyc = i.operand?.elim 1 loadCycles := by
  obtain ⟨-, ⟨f, v, hf, -, rfl⟩ | ⟨hf, rfl⟩⟩ := exec_next h <;> rw [hf] <;> rfl

/-- Settles O10: the cycle total by the operand form. -/
theorem cycleTotalsOfEveryInstruction : Obligations.CycleTotalsOfEveryInstruction := by
  unfold Obligations.CycleTotalsOfEveryInstruction
  intro i s t h
  rw [exec_cyc h]
  cases i.operand? with
  | none => rfl
  | some f => cases f <;> rfl

/-- Settles O11: every instruction completes, and the fetch never falls short. -/
theorem executeRaisesNothing : Obligations.ExecuteRaisesNothing := by
  unfold Obligations.ExecuteRaisesNothing
  exact ⟨fun i _ => exists_exec_next i, fun _ => exists_execute_next⟩

/-- Settles O12: `perform` and the fetch both check for a state without values first. -/
theorem unresetStateFaultsTheRead : Obligations.UnresetStateFaultsTheRead := by
  unfold Obligations.UnresetStateFaultsTheRead
  constructor
  · intro i s hs
    rw [exec_eq_perform, perform, if_pos hs]
  · intro s hs
    have hread : memRead params s s.pc = .error .readBeforeReset := if_pos hs
    simp only [execute, fetch, hread]

/-- No operand's value rests on A, Y, sp or a flag: an index is always X. -/
theorem operandValue_unread {i : Instr} {f : Operand} (hf : i.operand? = some f) (P : Config.Params) (s : State)
    (sp : Word) (a y : Byte) (fc fz fi fd fb fv fn : Bool) :
    operandValue P { s with
        sp := sp, a := a, y := y, flagC := fc, flagZ := fz, flagI := fi, flagD := fd, flagB := fb,
        flagV := fv, flagN := fn } f = operandValue P s f := by
  cases i <;> cases hf <;> rfl

/-- Settles O14: the operand's value is the same, and the inversion of `exec` says what is written. -/
theorem unreadStateHasNoInfluence : Obligations.UnreadStateHasNoInfluence := by
  unfold Obligations.UnreadStateHasNoInfluence
  intro i s t sp a y fc fz fi fd fb fv fn h
  obtain ⟨hs, ⟨f, v, hf, hv, rfl⟩ | ⟨hf, rfl⟩⟩ := exec_next h
  · have hne : i.operand? ≠ none := by simp [hf]
    simp only [hne, if_false]
    exact exec_of_operand hf hs ((operandValue_unread hf ..).trans hv)
  · simp only [hf, if_true]
    exact exec_of_no_operand hf hs

/-! ### The descriptor table (R88) -/

theorem descriptor_isNone (i : Instr) : (descriptor i).isNone = i.operand?.isNone := by cases i <;> rfl

/-- A row's opcode, lengths and cycles are those of the encoding and of the cycle total. -/
theorem descriptor_some {i : Instr} {d : Descriptor} (h : descriptor i = some d) :
    (encode i).head? = some d.opcode ∧ (encode i).length = d.length ∧ d.length = d.operandBytes + 1 ∧
      (i.operand?.elim 1 loadCycles).toNat = d.cycles := by
  cases i <;> cases h <;> exact ⟨rfl, rfl, rfl, rfl⟩

/-- Settles O24: row by row, with the cycle total of `exec`. -/
theorem descriptorTableAgreesWithTheMachine : Obligations.DescriptorTableAgreesWithTheMachine := by
  unfold Obligations.DescriptorTableAgreesWithTheMachine
  constructor
  · intro i d h
    obtain ⟨hop, hlen, hbytes, hcyc⟩ := descriptor_some h
    exact ⟨hop, hlen, hbytes, fun s t ht => by rw [exec_cyc ht, hcyc]⟩
  · intro i
    rw [← Option.isNone_iff_eq_none, descriptor_isNone, Option.isNone_iff_eq_none]

end Sys2Proof.Machine
end

section
/-!
PROOFS. A memory write (R56), the instruction at `pc` as the bytes that stand there, and from it the access sequence (R108) and
what an instruction's result rests on.
-/

namespace Sys2Proof.Machine

/-! ### A memory write -/

/-- A memory in canonical form reads as unlisted below its first cell. -/
theorem Memory.read_of_lt : ∀ {m : Memory} {lo a : Nat}, Memory.wfFrom lo m = true → a < lo →
    m.read a = Memory.unlisted
  | [], _, _, _, _ => rfl
  | (k, b) :: m, lo, a, h, ha => by
    simp only [Memory.wfFrom, Bool.and_eq_true, decide_eq_true_eq] at h
    obtain ⟨⟨⟨hk, -⟩, -⟩, hm⟩ := h
    rw [Memory.read, if_neg (by omega), Memory.read_of_lt hm (by omega)]

theorem Memory.read_write {a : Nat} {v : Byte} : ∀ {m : Memory} {lo : Nat}, Memory.wfFrom lo m = true → ∀ p : Nat,
    (m.write a v).read p = if a = p then v else m.read p
  | [], _, _, p => Memory.read_listed rfl p
  | (k, b) :: m, lo, h, p => by
    simp only [Memory.wfFrom, Bool.and_eq_true, decide_eq_true_eq] at h
    obtain ⟨⟨⟨hk, -⟩, -⟩, hm⟩ := h
    rw [Memory.write]
    by_cases hlt : a < k
    · have hfree : Memory.read ((k, b) :: m) a = Memory.unlisted := by
        rw [Memory.read, if_neg (by omega), Memory.read_of_lt hm (by omega)]
      rw [if_pos hlt, Memory.read_listed hfree]
    · rw [if_neg hlt]
      by_cases heq : a = k
      · subst heq
        rw [if_pos rfl, Memory.read_listed (Memory.read_of_lt hm (Nat.lt_succ_self a)), Memory.read]
        split_ifs <;> rfl
      · rw [if_neg heq, Memory.read, Memory.read_write hm p, Memory.read]
        by_cases hp : k = p
        · subst hp
          simp only [if_true, if_neg heq]
        · simp only [if_neg hp]

/-- Settles O18: the write keeps the canonical form, in which it sets one byte. -/
theorem memWriteSetsOneByte : Obligations.MemWriteSetsOneByte := by
  unfold Obligations.MemWriteSetsOneByte
  intro s q v hm
  refine ⟨memWrite_wf q v hm, (Memory.read_write hm _).trans (if_pos rfl), fun p hp => ?_⟩
  exact (Memory.read_write hm _).trans (if_neg fun h => hp (BitVec.eq_of_toNat_eq h).symm)

/-! ### The instruction at `pc` -/

@[simp] theorem addressesFrom_length : ∀ (p : Word) (n : Nat), (addressesFrom p n).length = n
  | _, 0 => rfl
  | p, n + 1 => by rw [addressesFrom, List.length_cons, addressesFrom_length]

theorem addressesFrom_take : ∀ (p : Word) {k n : Nat}, k ≤ n → (addressesFrom p n).take k = addressesFrom p k
  | _, 0, _, _ => List.take_zero
  | p, k + 1, n + 1, h => by
    rw [addressesFrom, addressesFrom, List.take_succ_cons, addressesFrom_take _ (Nat.le_of_succ_le_succ h)]

theorem exists_encode_cons (i : Instr) : ∃ op tail, encode i = op :: tail ∧ lengthOf op = i.length := by
  cases i <;> exact ⟨_, _, rfl, rfl⟩

/-- The first byte read from `p` on stands at `p`. -/
theorem read_eq_of_bytes {s : State} {p : Word} {n : Nat} {op : Byte} {tail : List Byte}
    (h : (addressesFrom p n).map s.read = op :: tail) : s.read p = op := by
  cases n with
  | zero => cases h
  | succ n => exact (List.cons.inj h).1

/-- The current instruction is the one whose encoding stands at `pc`. -/
theorem currentInstr_eq_some_iff {s : State} {i : Instr} : currentInstr s = some i ↔
    s.run ≠ .unreset ∧ (addressesFrom s.pc i.length).map s.read = encode i := by
  obtain ⟨op, tail, henc, hlen⟩ := exists_encode_cons i
  by_cases hs : s.run = .unreset
  · have hread : memRead params s s.pc = .error .readBeforeReset := if_pos hs
    simp only [currentInstr, fetch, hread, hs, ne_eq, not_true_eq_false, false_and, reduceCtorEq]
  · simp only [currentInstr, fetch_params hs, hs, ne_eq, not_false_eq_true, true_and]
    constructor
    · intro h
      split at h
      · next j rest hd =>
        cases h
        have hbytes := eq_encode_of_decode hd
        have hop : s.read s.pc = op := read_eq_of_bytes (hbytes.trans (by rw [henc, List.cons_append]))
        rw [hop, hlen] at hbytes
        have hrest : rest = [] := by simpa [encode_length] using congrArg List.length hbytes
        rw [hbytes, hrest, List.append_nil]
      · cases h
    · intro h
      rw [read_eq_of_bytes (h.trans henc), hlen, h, ← List.append_nil (encode i), decode_encode_append]

theorem execute_of_currentInstr {s : State} {i : Instr} (h : currentInstr s = some i) : execute s = exec i s := by
  unfold currentInstr at h
  split at h
  · cases h
  · next bytes hf =>
    split at h
    · next j rest hd =>
      cases h
      simp only [execute, hf, hd]
    · cases h

/-! ### The addresses an instruction reads -/

theorem operand_byte_eq {s : State} {p : Word} {op b : Byte} (h : (addressesFrom p 2).map s.read = [op, b]) :
    s.read (p + 1) = b :=
  read_eq_of_bytes (List.cons.inj h).2

theorem operand_word_eq {s : State} {p : Word} {op : Byte} {w : Word}
    (h : (addressesFrom p 3).map s.read = [op, lowByte w, highByte w]) :
    s.read (p + 2) ++ s.read (p + 1) = w := by
  obtain ⟨hlo, hhi⟩ := List.cons.inj (List.cons.inj h).2
  have hhi : s.read (p + 2) = highByte w := (congrArg s.read (BitVec.add_assoc p 1 1)).symm.trans (read_eq_of_bytes hhi)
  rw [hlo, hhi]
  exact littleEndian_bytes w

/-- Settles O16: the bytes at `pc` are the encoding, so its operand is read there; no instruction writes memory. -/
theorem accessSequenceOfEveryInstruction : Obligations.AccessSequenceOfEveryInstruction := by
  unfold Obligations.AccessSequenceOfEveryInstruction
  intro s i hi
  refine ⟨?_, fun t ht => (execute_frame ht).mem⟩
  obtain ⟨-, hbytes⟩ := currentInstr_eq_some_iff.mp hi
  have hpc : s.pc + 2 = s.pc + 1 + 1 := (BitVec.add_assoc s.pc 1 1).symm
  cases i
  case ldaZp zp => rw [operand_byte_eq hbytes]; rfl
  case ldaZpX zp => rw [operand_byte_eq hbytes]; rfl
  case ldaAbs abs => rw [operand_word_eq hbytes, hpc]; rfl
  case ldaAbsX abs => rw [operand_word_eq hbytes, hpc]; rfl
  all_goals rfl

/-! ### What an instruction's result rests on -/

theorem locate_mem (P : Config.Params) (s : State) (m : Memory) (f : Operand) :
    locate P { s with mem := m } f = locate P s f := by cases f <;> rfl

/-- An operand's value rests on the byte at its data address alone. -/
theorem operandValue_mem {s : State} {m : Memory} {f : Operand}
    (h : ∀ q ∈ dataAddress params s f, m.read q.toNat = s.read q) :
    operandValue params { s with mem := m } f = operandValue params s f := by
  unfold operandValue
  rw [locate_mem]
  cases hl : locate params s f with
  | error e => rfl
  | ok src =>
    cases src with
    | value v => rfl
    | address ea =>
      have hea : m.read ea.toNat = s.read ea := h ea (by rw [dataAddress, hl]; exact List.mem_singleton_self ea)
      simp only [memRead]
      rw [State.read, hea]

theorem readSequence_of_operand {i : Instr} {f : Operand} (hf : i.operand? = some f) (s : State) :
    readSequence i s = addressesFrom s.pc i.length ++ dataAddress params s f := by
  simp only [readSequence, hf]

theorem readSequence_of_no_operand {i : Instr} (hf : i.operand? = none) (s : State) : readSequence i s = [s.pc] := by
  simp only [readSequence, hf, Instr.length, addressesFrom, List.append_nil]

/-- An instruction does the same with another memory that agrees where it reads its data. -/
theorem exec_with_mem {i : Instr} {s t : State} {m : Memory}
    (hm : ∀ q ∈ readSequence i s, m.read q.toNat = s.read q) (h : exec i s = .next t) :
    exec i { s with mem := m } = .next { t with mem := m } := by
  obtain ⟨hs, ⟨f, v, hf, hv, rfl⟩ | ⟨hf, rfl⟩⟩ := exec_next h
  · rw [readSequence_of_operand hf] at hm
    refine exec_of_operand hf hs ((operandValue_mem fun q hq => hm q ?_).trans hv)
    exact List.mem_append_right _ hq
  · exact exec_of_no_operand hf hs

/-- The current instruction is the same with another memory that agrees at its bytes. -/
theorem currentInstr_with_mem {i : Instr} {s : State} {m : Memory}
    (hm : ∀ q ∈ readSequence i s, m.read q.toNat = s.read q) (h : currentInstr s = some i) :
    currentInstr { s with mem := m } = some i := by
  obtain ⟨hs, hbytes⟩ := currentInstr_eq_some_iff.mp h
  refine currentInstr_eq_some_iff.mpr ⟨hs, Eq.trans (List.map_congr_left fun q hq => hm q ?_) hbytes⟩
  exact List.mem_append_left _ hq

theorem dataAddress_length_le (P : Config.Params) (s : State) (f : Operand) : (dataAddress P s f).length ≤ 1 := by
  unfold dataAddress
  split <;> simp

theorem readSequence_length_le (i : Instr) (s : State) : (readSequence i s).length ≤ 4 := by
  obtain ⟨-, hlen⟩ := i.length_bounds
  cases hf : i.operand? with
  | none => simp [readSequence_of_no_operand hf]
  | some f =>
    have hdata := dataAddress_length_le params s f
    rw [readSequence_of_operand hf, List.length_append, addressesFrom_length]
    omega

theorem readSequence_head? (i : Instr) (s : State) : (readSequence i s).head? = some s.pc := by
  obtain ⟨n, hn⟩ := Nat.exists_eq_add_of_le' i.length_bounds.1
  rw [readSequence, hn]
  rfl

/-- Settles O15: the current instruction and its operand's value are the same where the two memories agree. -/
theorem resultRestsOnTheAccessSequenceAlone : Obligations.ResultRestsOnTheAccessSequenceAlone := by
  unfold Obligations.ResultRestsOnTheAccessSequenceAlone
  intro s t i m hi hm ht
  refine ⟨?_, readSequence_length_le i s, readSequence_head? i s⟩
  rw [execute_of_currentInstr (currentInstr_with_mem hm hi)]
  rw [execute_of_currentInstr hi] at ht
  exact exec_with_mem hm ht

/-! ### The zero-page modes (R103, R104) -/

theorem zext16_toNat (v : Byte) : (zext16 v).toNat = v.toNat := by
  rw [zext16, BitVec.toNat_setWidth_of_le (by decide)]

/-- Settles O17: zero extension keeps the value of the operand, and of the 8-bit sum. -/
theorem zeroPageModesStayInZeroPage : Obligations.ZeroPageModesStayInZeroPage := by
  unfold Obligations.ZeroPageModesStayInZeroPage
  intro P s zp i
  exact ⟨⟨_, rfl, zext16_toNat zp⟩, ⟨_, rfl, (zext16_toNat _).trans (BitVec.toNat_add ..)⟩⟩

end Sys2Proof.Machine
end

section
/-!
PROOFS. The states inside one instruction (R164): their frame, the last of them and the cycle counter in them; and the
alternatives of the open parameters (R9), where a load is taken with another parameter value.
-/

namespace Sys2Proof.Machine

/-! ### The states inside one instruction -/

theorem SameOutside.eq {s u : State} (h : SameOutside s u) :
    u = { s with pc := u.pc, cyc := u.cyc, a := u.a, flagZ := u.flagZ, flagN := u.flagN } := by
  obtain ⟨_, _, _, _, _, _, _, _, _, _, _, _, _, _, _⟩ := h
  cases u
  simp_all

/-- A state inside a sequence of assignments stands right after the first of them or inside the rest. -/
theorem mem_traceMicros_cons {P : Config.Params} {m : Micro} {ms : List Micro} {l : Latch} {u : State}
    (h : u ∈ traceMicros P (m :: ms) l) :
    ∃ l', m.apply P l = .ok l' ∧ (u = l'.state ∨ u ∈ traceMicros P ms l') := by
  unfold traceMicros at h
  split at h
  · next l' hl => exact ⟨l', hl, List.mem_cons.mp h⟩
  · cases h

theorem traceMicros_frame {P : Config.Params} {ms : List Micro} {l : Latch} {u : State}
    (h : u ∈ traceMicros P ms l) : SameOutside l.state u := by
  induction ms generalizing l with
  | nil => exact absurd h List.not_mem_nil
  | cons m ms ih =>
    obtain ⟨l', hl, rfl | hu⟩ := mem_traceMicros_cons h
    · exact Micro.apply_frame hl
    · exact (Micro.apply_frame hl).trans (ih hu)

/-- The states of a completed sequence end with the state it ends in. -/
theorem traceMicros_getLast? {P : Config.Params} : ∀ {ms : List Micro} {l l' : Latch}, runMicros P ms l = .ok l' →
    (l.state :: traceMicros P ms l).getLast? = some l'.state
  | [], l, l', h => by cases h; rfl
  | m :: ms, l, l', h => by
    unfold runMicros at h
    split at h
    · next l₁ hl =>
      rw [traceMicros, hl, List.getLast?_cons_cons]
      exact traceMicros_getLast? h
    · cases h

/-- A state inside an instruction is the state before it, or stands in the sequence of the current instruction. -/
theorem mem_instants {s u : State} (h : u ∈ instants s) :
    u = s ∨ ∃ i, currentInstr s = some i ∧ u ∈ traceMicros params (program params i) (Latch.start s) := by
  unfold instants at h
  obtain rfl | h := List.mem_cons.mp h
  · exact .inl rfl
  · split at h
    · next i hi => exact .inr ⟨i, hi, h⟩
    · cases h

theorem instants_frame {s u : State} (h : u ∈ instants s) : SameOutside s u := by
  obtain rfl | ⟨i, -, hu⟩ := mem_instants h
  · exact .refl _
  · exact traceMicros_frame hu

theorem currentInstr_of_execute {s t : State} (h : execute s = .next t) :
    ∃ i, currentInstr s = some i ∧ exec i s = .next t := by
  obtain ⟨bytes, i, rest, hf, hd, hi⟩ := execute_next h
  exact ⟨i, by simp only [currentInstr, hf, hd], hi⟩

theorem instants_getLast? {s t : State} (h : execute s = .next t) : (instants s).getLast? = some t := by
  obtain ⟨i, hi, ht⟩ := currentInstr_of_execute h
  obtain ⟨-, -, l, hl, rfl⟩ := perform_next (exec_eq_perform i s ▸ ht)
  simp only [instants, hi]
  exact traceMicros_getLast? hl

theorem instantAt_mem (draw : Nat) (s : State) : instantAt draw s ∈ instants s := by
  have hpos : 0 < (instants s).length := by rw [instants, List.length_cons]; exact Nat.succ_pos _
  rw [instantAt, List.getD_eq_getElem _ _ (Nat.mod_lt draw hpos)]
  exact List.getElem_mem _

/-- Settles O50: the draw picks one of the instants, which run from the state before the instruction to the one after it. -/
theorem racyReadIsAValueTheFieldHeld : Obligations.RacyReadIsAValueTheFieldHeld := by
  unfold Obligations.RacyReadIsAValueTheFieldHeld
  refine ⟨fun s f draw hs => ⟨_, instantAt_mem draw s, by simp only [observeField, hs]⟩, fun s t ht => ?_,
    fun s u hu => (instants_frame hu).eq⟩
  exact ⟨rfl, instants_getLast? ht⟩

/-! ### The cycle counter inside an instruction (R32) -/

/-- The counter grows by one charge at most, and only by a charge. -/
theorem Micro.apply_cyc_le {P : Config.Params} {m : Micro} {l l' : Latch} (h : m.apply P l = .ok l') :
    l'.state.cyc.toNat ≤ l.state.cyc.toNat + [m].count .charge := by
  cases m <;> simp only [Micro.apply] at h
  case clearCyc => cases h; simp
  case charge =>
    cases h
    simp only [State.setCyc_cyc, BitVec.toNat_add, List.count_singleton_self]
    exact Nat.mod_le _ _
  case advancePc => split at h <;> cases h; exact Nat.le_add_right _ _
  case readValue => split at h <;> cases h; exact Nat.le_add_right _ _
  all_goals cases h; exact Nat.le_add_right _ _

/-- Inside a sequence of assignments the counter exceeds its start by no more than the charges of the sequence. -/
theorem traceMicros_cyc_le {P : Config.Params} {ms : List Micro} {l : Latch} {u : State} (h : u ∈ traceMicros P ms l) :
    u.cyc.toNat ≤ l.state.cyc.toNat + ms.count .charge := by
  induction ms generalizing l with
  | nil => exact absurd h List.not_mem_nil
  | cons m ms ih =>
    obtain ⟨l', hl, hu⟩ := mem_traceMicros_cons h
    have hstep := Micro.apply_cyc_le hl
    rw [← List.singleton_append, List.count_append]
    obtain rfl | hu := hu
    · omega
    · have hrest := ih hu
      omega

/-- Every instruction clears the counter first, then charges at most four times (R107). -/
theorem program_charges_le (i : Instr) : ∃ ms, program params i = .clearCyc :: ms ∧ ms.count .charge ≤ 4 := by
  unfold program
  cases i.operand? with
  | none => exact ⟨_, rfl, by decide⟩
  | some f => cases f <;> exact ⟨_, rfl, by simp [resolve, addressFetch, params, loadA]⟩

theorem instants_cyc_le {s u : State} (hs : s.cyc.toNat ≤ 4) (h : u ∈ instants s) : u.cyc.toNat ≤ 4 := by
  obtain rfl | ⟨i, -, hu⟩ := mem_instants h
  · exact hs
  · obtain ⟨ms, hprog, hcharges⟩ := program_charges_le i
    rw [hprog] at hu
    obtain ⟨l, hl, hu⟩ := mem_traceMicros_cons hu
    cases hl
    obtain rfl | hu := hu
    · exact Nat.zero_le 4
    · exact (traceMicros_cyc_le hu).trans (by simpa using hcharges)

/-! ### The parameters the spec leaves open -/

/-- Settles O51: the increment by case, and every instruction increments `pc` before anything else can stop it. -/
theorem pcOverflowWrapsOrFaults : Obligations.PcOverflowWrapsOrFaults := by
  unfold Obligations.PcOverflowWrapsOrFaults
  refine ⟨rfl, fun _ => rfl, rfl, rfl, fun v hv => if_neg hv, fun P i s hP hs hpc => ?_⟩
  have hprog : ∃ ms, program P i = opcodeFetch ++ ms := by
    unfold program
    cases i.operand? with
    | none => exact ⟨[], rfl⟩
    | some f => exact ⟨_, List.append_assoc ..⟩
  obtain ⟨ms, hprog⟩ := hprog
  simp [perform, hs, hprog, opcodeFetch, runMicros, Micro.apply, Latch.start, hP, hpc, inc16]

/-- What the fetch of the two address bytes charges (R105). -/
def addressCharges : Config.AddrFetch → Byte
  | .perByte => 2
  | .perPair => 1

/-- The two address bytes advance `pc` by 2 under both policies; the charges are the policy's. -/
theorem runMicros_addressFetch {P : Config.Params} (hP : P.pcOverflow = .wrap) (c : Config.AddrFetch) (ms : List Micro)
    (l : Latch) : runMicros P (addressFetch c ++ ms) l =
      runMicros P ms { l with
        state := (l.state.setPc (l.state.pc + 2)).setCyc (l.state.cyc + addressCharges c) } := by
  cases c <;>
    simp [addressFetch, addressCharges, runMicros, Micro.apply, inc16, hP, State.setPc, State.setCyc, BitVec.add_assoc]

/-- An absolute load under parameters that wrap `pc`: the operand's value alone decides whether it stops, and the address
fetch charges what its policy says. -/
theorem perform_absolute {P : Config.Params} (hP : P.pcOverflow = .wrap) (c : Config.AddrFetch) (f : Operand) {s : State}
    (hs : s.run ≠ .unreset) :
    perform P (opcodeFetch ++ (addressFetch c ++ [.readValue f, .charge]) ++ loadA) s =
      match operandValue P s f with
      | .ok v => .next { s with
          pc := s.pc + 3, cyc := 2 + addressCharges c, a := v, flagZ := zeroFlag v, flagN := negativeFlag v }
      | .error e => .fault e := by
  have hpc : s.pc + 1 + 2 = s.pc + 3 := BitVec.add_assoc s.pc 1 2
  have hcyc : 1 + addressCharges c + 1 = 2 + addressCharges c := by cases c <;> rfl
  rw [perform, if_neg hs, opcodeFetch, List.append_assoc, List.append_assoc]
  simp only [List.cons_append, List.nil_append, runMicros, Micro.apply, inc16, hP, Latch.start, runMicros_addressFetch hP]
  simp only [loadA, runMicros, Micro.apply, operandValue_setPc, operandValue_setCyc]
  cases operandValue P s f with
  | error e => rfl
  | ok v => rw [← hpc, ← hcyc]; rfl

/-- Where the sum stays within 16 bits, the operand's value is that of the policy `wrap`; past them it stops. -/
theorem operandValue_eaFault (s : State) (abs : Word) (i : Reg) :
    operandValue { params with eaOverflow := .fault } s (.absoluteIndexed abs i) =
      if 0xFFFF < abs.toNat + (s.reg i).toNat then .error .eaOverflow
      else operandValue params s (.absoluteIndexed abs i) := by
  by_cases h : 0xFFFF < abs.toNat + (s.reg i).toNat
  · rw [if_pos h]
    simp only [operandValue, locate, indexedAbsolute, if_neg h.not_ge]
  · rw [if_neg h]
    simp only [operandValue, locate, indexedAbsolute, params, if_pos (not_lt.mp h)]
    rfl

/-- Settles O52: the operand's value under `fault` is that under `wrap` or stops the load. -/
theorem eaOverflowFaultsExactlyPastTheTop : Obligations.EaOverflowFaultsExactlyPastTheTop := by
  unfold Obligations.EaOverflowFaultsExactlyPastTheTop
  refine ⟨rfl, fun abs s hs => ?_⟩
  have hv := operandValue_params hs (.absoluteIndexed abs .X)
  rw [exec_of_operand (i := .ldaAbsX abs) rfl hs hv]
  refine (perform_absolute rfl .perByte (.absoluteIndexed abs .X) hs).trans ?_
  rw [operandValue_eaFault]
  by_cases h : 0xFFFF < abs.toNat + (s.reg .X).toNat
  · rw [if_pos h]
    exact (if_pos h).symm
  · rw [if_neg h, hv]
    exact (if_neg h).symm

/-- Settles O53: both policies advance `pc` alike and end with the operand's value in A. -/
theorem addressFetchPolicyChangesOnlyTheCount : Obligations.AddressFetchPolicyChangesOnlyTheCount := by
  unfold Obligations.AddressFetchPolicyChangesOnlyTheCount
  refine ⟨rfl, fun abs s t h => ?_, fun abs s t h => ?_⟩
  all_goals
    obtain ⟨hs, ⟨f, v, hf, hv, rfl⟩ | ⟨hf, -⟩⟩ := exec_next h <;> cases hf
    refine (perform_absolute rfl .perPair _ hs).trans ?_
    rw [hv]
    rfl

/-- Settles O54: the two checks of `memRead` by case. -/
theorem readsBeyondASmallerLimitFault : Obligations.ReadsBeyondASmallerLimitFault := by
  unfold Obligations.ReadsBeyondASmallerLimitFault
  refine ⟨rfl, fun s q hs => memRead_params hs q, fun P s q hs hq => ?_, fun P s q hs hq => ?_⟩
  · rw [memRead, if_neg hs, if_neg hq.not_gt]
  · rw [memRead, if_neg hs, if_pos hq]

end Sys2Proof.Machine
end

section
/-!
PROOFS. What each request does (R151 to R163), an equation per case, and from them the lifecycle statements.
-/

namespace Sys2Proof.Machine

/-! ### The stopped stream -/

theorem State.active_iff {s : State} : s.active = true ↔ s.run = .running ∨ s.run = .paused := by
  simp only [State.active, Bool.or_eq_true, decide_eq_true_eq]

theorem State.active_eq_false {s : State} (hr : s.run ≠ .running) (hp : s.run ≠ .paused) : s.active = false := by
  simp only [State.active, hr, hp, decide_false, Bool.or_false]

theorem stopStream_run (s : State) : (stopStream s).run = if s.active then .stopped else s.run := rfl

theorem stopStream_active (s : State) : (stopStream s).active = false := by
  obtain ⟨r, he, hr, hp⟩ := stopStream_eq s
  rw [he]
  exact State.active_eq_false hr hp

/-! ### Every request after dispose -/

/-- After dispose a request is answered and without effect (R163). -/
theorem serve_of_disposed {s : State} (hs : s.run = .disposed) (r : Request) : serve r s = s.answer .done := by
  cases r <;> simp [serve, serveReset, serveStart, serveDebugToggle, serveDispose, hs]

/-! ### reset -/

/-- A reset whose image fits leaves the reset state with that image. -/
theorem serve_reset_eq {image : List Byte} {s : State} {m : Memory} (hs : s.run ≠ .disposed)
    (hm : padImage params.memoryLimit image = some m) :
    serve (.reset image) s = { State.reset with
      mem := m, dbg := s.dbg, agenda := s.agenda, replies := s.replies.map (Reply.settle false) ++ [.done],
      free := s.free } := by
  simp only [serve, serveReset, hs, if_false, hm]
  rfl

theorem serve_reset_of_oversized {image : List Byte} {s : State} (hs : s.run ≠ .disposed) (h : 65536 < image.length) :
    serve (.reset image) s = (unspecify (stopStream s)).answer .configError := by
  have hnone : padImage params.memoryLimit image = none := padImage_of_lt h
  simp only [serve, serveReset, hs, if_false, hnone]

/-- Everything a reset before dispose can do: the image does not fit and is reported, or it is installed. -/
theorem serve_reset_cases {s : State} (hs : s.run ≠ .disposed) (image : List Byte) :
    (65536 < image.length ∧ serve (.reset image) s = (unspecify (stopStream s)).answer .configError) ∨
    ∃ m, padImage params.memoryLimit image = some m ∧
      serve (.reset image) s = (installReset m (stopStream s)).answer .done :=
  (lt_or_ge 65536 image.length).imp (fun h => ⟨h, serve_reset_of_oversized hs h⟩) (serve_reset_of_fits hs)

/-- Settles O36: the end state of a reset whose image fits. -/
theorem resetEstablishesTheResetState : Obligations.ResetEstablishesTheResetState := by
  unfold Obligations.ResetEstablishesTheResetState
  exact fun _ _ hs hl => serve_reset_of_fits hs hl

/-- Settles O37: the second reset finds the state the first one left, whose waiting toggles are settled. -/
theorem resetTwiceIsResetOnce : Obligations.ResetTwiceIsResetOnce := by
  unfold Obligations.ResetTwiceIsResetOnce
  intro s image hs hl
  obtain ⟨m, hm⟩ := padImage_of_le (limit := params.memoryLimit) hl
  have hfirst := serve_reset_eq hs hm
  have hrun : (serve (.reset image) s).run ≠ .disposed := by rw [hfirst]; nofun
  rw [serve_reset_eq hrun hm, hfirst]
  simp [Function.comp_def]

/-- Settles O38: the padding of the empty image lists no cell. -/
theorem powerOnThenEmptyImageIsReset : Obligations.PowerOnThenEmptyImageIsReset := by
  unfold Obligations.PowerOnThenEmptyImageIsReset
  have hrun : State.powerOn.run ≠ .disposed := nofun
  exact ⟨rfl, rfl, rfl, serve_reset_eq hrun (padImage_of_short (by decide))⟩

/-! ### start -/

theorem serve_start_of_not_stopped {s : State} (hs : s.run ≠ .stopped) : serve .start s = s.answer .done := by
  simp only [serve, serveStart, hs, if_false]

/-- Settles O41: accepted when Stopped, answered without effect elsewhere. -/
theorem startOnlyWhenStopped : Obligations.StartOnlyWhenStopped := by
  unfold Obligations.StartOnlyWhenStopped
  exact ⟨fun _ => serve_start_of_stopped, fun _ => serve_start_of_not_stopped⟩

/-- Settles O40: the reset state starts at 0x0100, and a placed image reads as its bytes from its base on. -/
theorem firstOpcodeAfterResetAndStart : Obligations.FirstOpcodeAfterResetAndStart := by
  unfold Obligations.FirstOpcodeAfterResetAndStart
  intro s image hs hl
  obtain ⟨m, hm⟩ := padImage_of_le (limit := params.memoryLimit) hl
  have hreset := serve_reset_eq hs hm
  have hstart := serve_start_of_stopped (s := serve (.reset image) s) (by rw [hreset]; rfl)
  have hmem : (serve .start (serve (.reset image) s)).mem = m := by rw [hstart, hreset]; rfl
  refine ⟨by rw [hstart], by rw [hstart, hreset]; rfl, fun hshort => ?_, fun hlong => ?_⟩
  · have hplace : m = Memory.place 256 image :=
      Option.some.inj (hm.symm.trans (padImage_of_short (by simp only [params]; omega)))
    refine ⟨?_, fun q hq => ?_⟩
    · rw [State.read, hmem, hplace, Memory.read_place]
      rfl
    · rw [State.read, hmem, hplace, Memory.read_place, if_pos hq]
  · have hplace : m = Memory.place 0 image :=
      Option.some.inj (hm.symm.trans (padImage_of_long (by simp only [params]; omega) hl))
    rw [State.read, hmem, hplace, Memory.read_place]
    rfl

/-! ### debugToggle -/

theorem serve_debugToggle_of_idle {s : State} (hs : s.run ≠ .disposed) (hidle : s.active = false) :
    serve .debugToggle s = { s.answer .done with dbg := !s.dbg } := by
  simp [serve, serveDebugToggle, hs, hidle]

theorem serve_debugToggle_of_active {s : State} (h : s.active = true) :
    serve .debugToggle s =
      { s.answer (if s.paused = !s.dbg then .done else .awaiting (!s.dbg)) with dbg := !s.dbg } := by
  have hs : s.run ≠ .disposed := by rintro hd; simp [State.active, hd] at h
  simp only [serve, serveDebugToggle, hs, if_false, h, Bool.true_and, bne_iff_ne]
  by_cases hp : s.paused = !s.dbg <;> simp [hp]

/-! ### dispose -/

theorem serve_dispose_of_not_disposed {s : State} (hs : s.run ≠ .disposed) :
    serve .dispose s =
      { s with run := .disposed, paused := false, replies := s.replies.map (Reply.settle false) ++ [.done] } := by
  simp only [serve, serveDispose, hs, if_false]
  rfl

theorem serve_dispose_run (s : State) : (serve .dispose s).run = .disposed := by
  by_cases hs : s.run = .disposed
  · rw [serve_of_disposed hs]; exact hs
  · rw [serve_dispose_of_not_disposed hs]

theorem serve_dispose_twice (s : State) : serve .dispose (serve .dispose s) =
    { serve .dispose s with replies := (serve .dispose s).replies ++ [.done] } :=
  serve_of_disposed (serve_dispose_run s) .dispose

/-! ### The configuration error (R183) -/

/-- A request that reports the configuration error is a reset whose image does not fit. -/
theorem oversized_of_configError {r : Request} {s : State} (h : (serve r s).replies.getLast? = some .configError) :
    s.run ≠ .disposed ∧ ∃ image, r = .reset image ∧ 65536 < image.length := by
  by_cases hs : s.run = .disposed
  · rw [serve_of_disposed hs] at h
    simp at h
  refine ⟨hs, ?_⟩
  cases r with
  | reset image =>
    obtain ⟨hl, -⟩ | ⟨m, -, he⟩ := serve_reset_cases hs image
    · exact ⟨image, rfl, hl⟩
    · rw [he] at h
      simp at h
  | start =>
    by_cases hr : s.run = .stopped
    · rw [serve_start_of_stopped hr] at h
      simp at h
    · rw [serve_start_of_not_stopped hr] at h
      simp at h
  | debugToggle =>
    cases ha : s.active with
    | false =>
      rw [serve_debugToggle_of_idle hs ha] at h
      simp at h
    | true =>
      rw [serve_debugToggle_of_active ha] at h
      simp only [State.answer_replies, List.getLast?_concat] at h
      split at h <;> cases h
  | dispose =>
    rw [serve_dispose_of_not_disposed hs] at h
    simp at h

/-- Settles O39: the end state of a reset whose image does not fit, and that no other request replies so. -/
theorem oversizedImageIsTheOnlyConfigurationError : Obligations.OversizedImageIsTheOnlyConfigurationError := by
  unfold Obligations.OversizedImageIsTheOnlyConfigurationError
  refine ⟨fun s image hs hl => ?_, fun _ _ => oversized_of_configError⟩
  rw [serve_reset_of_oversized hs hl]
  exact ⟨List.getLast?_concat, stopStream_active s, rfl, rfl⟩

/-! ### Cancellation (R159) -/

/-- A reset or dispose that takes effect leaves no stream. -/
theorem serve_cancels {r : Request} (hr : r = .dispose ∨ ∃ image, r = .reset image) (s : State) :
    (serve r s).active = false ∧ (s.run ≠ .disposed → (serve r s).paused = false) := by
  by_cases hs : s.run = .disposed
  · rw [serve_of_disposed hs]
    exact ⟨State.active_eq_false (by simp [hs]) (by simp [hs]), fun h => absurd hs h⟩
  obtain rfl | ⟨image, rfl⟩ := hr
  · rw [serve_dispose_of_not_disposed hs]
    exact ⟨rfl, fun _ => rfl⟩
  · obtain ⟨-, he⟩ | ⟨m, -, he⟩ := serve_reset_cases hs image
    · rw [he]
      exact ⟨stopStream_active s, fun _ => rfl⟩
    · rw [he]
      exact ⟨rfl, fun _ => rfl⟩

/-! ### A move of the stream -/

/-- Where no stream exists nothing moves. -/
theorem streamMove_of_idle {s : State} (h : s.active = false) : streamMove s = .next s := by
  unfold streamMove
  cases hr : s.run with
  | running => simp [State.active, hr] at h
  | paused => simp [State.active, hr] at h
  | unreset => rfl
  | stopped => rfl
  | disposed => rfl

/-- Everything a move of the stream can answer with a next state. -/
theorem streamMove_next {s t : State} (h : streamMove s = .next t) :
    (s.run = .running ∧ ∃ u, execute s = .next u ∧ t = sampleDebug u) ∨
    (s.run = .paused ∧ t = recheckDebug s) ∨ (s.active = false ∧ t = s) := by
  by_cases hr : s.run = .running
  · obtain ⟨u, hu⟩ := exists_execute_next (s := s) (by simp [hr])
    rw [streamMove_of_running hr hu] at h
    cases h
    exact .inl ⟨hr, u, hu, rfl⟩
  by_cases hp : s.run = .paused
  · rw [streamMove_of_paused hp] at h
    cases h
    exact .inr (.inl ⟨hp, rfl⟩)
  · have hidle := State.active_eq_false hr hp
    rw [streamMove_of_idle hidle] at h
    cases h
    exact .inr (.inr ⟨hidle, rfl⟩)

/-- A move of an active stream follows the debug flag. -/
theorem streamMove_run {s t : State} (hs : s.active = true) (h : streamMove s = .next t) :
    t.run = if s.dbg then .paused else .running := by
  obtain ⟨hr, u, hu, rfl⟩ | ⟨hp, rfl⟩ | ⟨hidle, -⟩ := streamMove_next h
  · have hframe := execute_frame hu
    rw [sampleDebug_eq, hframe.dbg, hframe.run, hr]
  · rw [recheckDebug_eq, hp]
  · rw [hs] at hidle
    cases hidle

/-- Settles O47: a cancelled stream does not move. -/
theorem cancelledStreamIsGone : Obligations.CancelledStreamIsGone := by
  unfold Obligations.CancelledStreamIsGone
  intro s r hr
  obtain ⟨hidle, hpaused⟩ := serve_cancels hr s
  exact ⟨hidle, hpaused, streamMove_of_idle hidle⟩

/-- Settles O45: the resumed stream stands before the instruction whose bytes are at the same `pc`. -/
theorem resumeRunsTheNextInstruction : Obligations.ResumeRunsTheNextInstruction := by
  unfold Obligations.ResumeRunsTheNextInstruction
  intro s hs hd
  have hresume : recheckDebug s =
      { s with run := .running, paused := false, replies := s.replies.map (Reply.settle false) } := by
    rw [recheckDebug_eq, hd, Bool.and_false]
    rfl
  refine ⟨_, streamMove_of_paused hs, by rw [hresume], Option.ext fun i => ?_⟩
  rw [hresume, currentInstr_eq_some_iff, currentInstr_eq_some_iff]
  exact and_congr_left' ⟨fun _ => by simp [hs], fun _ => nofun⟩

/-! ### The transition table of `run` (R151) -/

theorem serve_start_run (s : State) : (serve .start s).run = if s.run = .stopped then .running else s.run := by
  by_cases hs : s.run = .stopped
  · rw [serve_start_of_stopped hs, if_pos hs]
  · rw [serve_start_of_not_stopped hs, if_neg hs, State.answer_run]

theorem serve_debugToggle_run (s : State) : (serve .debugToggle s).run = s.run := by
  by_cases hs : s.run = .disposed
  · rw [serve_of_disposed hs, State.answer_run]
  · cases ha : s.active with
    | false => rw [serve_debugToggle_of_idle hs ha, State.answer_run]
    | true => rw [serve_debugToggle_of_active ha, State.answer_run]

theorem serve_reset_run_of_oversized {s : State} {image : List Byte} (hs : s.run ≠ .disposed)
    (hl : 65536 < image.length) : (serve (.reset image) s).run = if s.run = .unreset then .unreset else .stopped := by
  have hstop : (serve (.reset image) s).run = (stopStream s).run := by rw [serve_reset_of_oversized hs hl]; rfl
  rw [hstop, stopStream_run, State.active]
  cases hr : s.run with
  | disposed => exact absurd hr hs
  | unreset => rfl
  | stopped => rfl
  | running => rfl
  | paused => rfl

/-- Settles O35: `run` after each request and after a move of the stream. -/
theorem lifecycleTransitions : Obligations.LifecycleTransitions := by
  unfold Obligations.LifecycleTransitions
  refine ⟨fun s image hs hl => ?_, fun _ _ => serve_reset_run_of_oversized, serve_start_run, serve_debugToggle_run,
    serve_dispose_run, fun r s hs => ?_, fun s t hs => streamMove_run (State.active_iff.mpr (.inl hs)),
    fun s t hs => streamMove_run (State.active_iff.mpr (.inr hs)), fun s t hr hp h => ?_⟩
  · obtain ⟨m, -, he⟩ := serve_reset_of_fits hs hl
    rw [he]
    rfl
  · rw [serve_of_disposed hs]
    exact hs
  · rw [streamMove_of_idle (State.active_eq_false hr hp)] at h
    cases h
    rfl

/-! ### The launch liberty and the consistent observation -/

/-- Settles O48: the two branches of the launch. -/
theorem launchLibertySetsIndexAndStackOnly : Obligations.LaunchLibertySetsIndexAndStackOnly := by
  unfold Obligations.LaunchLibertySetsIndexAndStackOnly
  exact ⟨fun _ _ _ _ hs => if_pos hs, fun _ _ _ _ hs => if_neg hs⟩

/-- Settles O49: what is observed in the three states. -/
theorem snapshotsAreConsistentWhenNothingMoves : Obligations.SnapshotsAreConsistentWhenNothingMoves := by
  unfold Obligations.SnapshotsAreConsistentWhenNothingMoves
  constructor
  · rintro s (hs | hs) <;>
      exact ⟨by simp only [observe, hs], fun f draw => by simp only [observeField, hs]⟩
  · intro s hs
    simp only [observe, hs]

end Sys2Proof.Machine
end

section
/-!
PROOFS. A step as the move the agenda puts next (R10), the runs that no caller disturbs (R206, R141), what a step leaves alone
(R30, R56, R192) and the cycle counter at a boundary (R32).
-/

namespace Sys2Proof.Machine

/-! ### A step by its move -/

theorem step_of_request {s : State} {r : Request} (h : (nextMove s).1 = .request r) :
    step s = .next (serve r { s with agenda := s.agenda.tail }) := by
  rw [← nextMove_state]
  generalize hm : nextMove s = p at h ⊢
  obtain ⟨m, s'⟩ := p
  subst h
  simp only [step, hm]

theorem step_of_stream {s : State} (h : (nextMove s).1 = .stream) :
    step s = streamMove { s with agenda := s.agenda.tail } := by
  rw [← nextMove_state]
  generalize hm : nextMove s = p at h ⊢
  obtain ⟨m, s'⟩ := p
  subst h
  simp only [step, hm]

/-- Settles O26: a request is served, and a stream that does not exist stays where it is. -/
theorem requestsActBetweenInstructions : Obligations.RequestsActBetweenInstructions := by
  unfold Obligations.RequestsActBetweenInstructions
  constructor
  · intro s r rest h
    have hmove : (nextMove s).1 = .request r := by simp only [nextMove, h]
    rw [step_of_request hmove, h, List.tail_cons]
  · intro s h hr hp
    rw [step_of_stream h]
    exact streamMove_of_idle (State.active_eq_false hr hp)

theorem streamMove_eq_turn {s : State} (hs : s.run = .running) : streamMove s = turn s := by
  simp only [streamMove, hs]

/-- The three bytes at `pc` decode to the current instruction. -/
theorem currentInstr_of_decode {s : State} {i : Instr} {rest : List Byte} (hs : s.run ≠ .unreset)
    (h : decode [s.read s.pc, s.read (s.pc + 1), s.read (s.pc + 2)] = .ok i rest) : currentInstr s = some i := by
  have hthree : (addressesFrom s.pc 3).map s.read = [s.read s.pc, s.read (s.pc + 1), s.read (s.pc + 2)] := by
    rw [show s.pc + 2 = s.pc + 1 + 1 from (BitVec.add_assoc s.pc 1 1).symm]
    rfl
  refine currentInstr_eq_some_iff.mpr ⟨hs, ?_⟩
  rw [← addressesFrom_take s.pc i.length_bounds.2, List.map_take, hthree, eq_encode_of_decode h, ← encode_length,
    List.take_left]

/-- Settles O25: the decoded instruction is the current one of the state the stream moves from. -/
theorem stepRunsTheDecodedInstruction : Obligations.StepRunsTheDecodedInstruction := by
  unfold Obligations.StepRunsTheDecodedInstruction
  intro s i rest hm hs hd
  have hi : currentInstr { s with agenda := s.agenda.tail } = some i := currentInstr_of_decode (by simp [hs]) hd
  rw [step_of_stream hm, streamMove_eq_turn (s := { s with agenda := s.agenda.tail }) hs, ← execute_of_currentInstr hi]
  rfl

/-! ### Runs -/

theorem exists_streamMove_next (s : State) : ∃ t, streamMove s = .next t := by
  cases ha : s.active with
  | false => exact ⟨s, streamMove_of_idle ha⟩
  | true =>
    obtain hr | hp := State.active_iff.mp ha
    · obtain ⟨t, u, -, hu, -⟩ := exists_turn_of_running hr
      exact ⟨u, hu⟩
    · exact ⟨_, streamMove_of_paused hp⟩

theorem exists_step_next (s : State) : ∃ t, step s = .next t := by
  cases hm : (nextMove s).1 with
  | request r => exact ⟨_, step_of_request hm⟩
  | stream => rw [step_of_stream hm]; exact exists_streamMove_next _

/-- Settles O27: every step has a next state. -/
theorem noRunEverStops : Obligations.NoRunEverStops := by
  unfold Obligations.NoRunEverStops
  intro n
  induction n with
  | zero => exact fun s => ⟨s, rfl⟩
  | succ n ih =>
    intro s
    obtain ⟨t, ht⟩ := exists_step_next s
    obtain ⟨u, hu⟩ := ih t
    exact ⟨u, (run_next Sys2Proof.core ht).trans hu⟩

/-- A running stream left alone by the caller: its step is its instruction. -/
theorem step_of_execute {s t : State} (hs : s.run = .running) (hd : s.dbg = false) (ha : s.agenda = [])
    (h : execute s = .next t) : step s = .next t := by
  have hstep : step s = streamMove s := by simp only [step, nextMove_nil ha]
  rw [hstep, streamMove_of_running hs h, sampleDebug, (execute_frame h).dbg, hd]
  rfl

/-- Settles O28: an instruction leaves `run`, `dbg`, the agenda and the memory, so the next one follows. -/
theorem streamRunsUntilTheCallerActs : Obligations.StreamRunsUntilTheCallerActs := by
  unfold Obligations.StreamRunsUntilTheCallerActs
  intro n
  induction n with
  | zero => exact fun s hs hd ha => ⟨s, rfl, hs, hd, ha, rfl⟩
  | succ n ih =>
    intro s hs hd ha
    obtain ⟨t, ht⟩ := exists_execute_next (s := s) (by simp [hs])
    have k := execute_frame ht
    obtain ⟨u, hu, hrun, hdbg, hagenda, hmem⟩ := ih t (k.run.trans hs) (k.dbg.trans hd) (k.agenda.trans ha)
    exact ⟨u, (run_next Sys2Proof.core (step_of_execute hs hd ha ht)).trans hu, hrun, hdbg, hagenda, hmem.trans k.mem⟩

/-- `n` steps over memory without a mapped opcode. -/
theorem run_of_unmapped (n : Nat) : ∀ s : State, s.run = .running → s.dbg = false → s.agenda = [] →
    (∀ q : Word, s.read q ∉ mappedOpcodes) →
    Sys2Proof.core.run n s = .next { s with pc := s.pc + BitVec.ofNat 16 n, cyc := if n = 0 then s.cyc else 1 } := by
  induction n with
  | zero => intro s _ _ _ _; simp [Host.Core.run]
  | succ n ih =>
    intro s hs hd ha hm
    have hstep := step_of_execute hs hd ha (execute_of_unmapped (by simp [hs]) (hm s.pc))
    refine (run_next Sys2Proof.core hstep).trans ((ih { s with pc := s.pc + 1, cyc := 1 } hs hd ha hm).trans ?_)
    have hpc : s.pc + 1 + BitVec.ofNat 16 n = s.pc + BitVec.ofNat 16 (n + 1) := by
      rw [BitVec.add_assoc, Nat.add_comm n 1, BitVec.ofNat_add]
      rfl
    simp only [hpc, Nat.succ_ne_zero, if_false, ite_self]

/-- Settles O29: the run by induction on its length; 65536 is 0 in 16 bits. -/
theorem unmappedMemoryIsASledOfNoOps : Obligations.UnmappedMemoryIsASledOfNoOps := by
  unfold Obligations.UnmappedMemoryIsASledOfNoOps
  refine fun n s hs hd ha hm => ⟨run_of_unmapped n s hs hd ha hm, ?_⟩
  rintro rfl
  exact BitVec.add_zero s.pc

/-! ### What a step leaves alone -/

/-- A step that is no reset and runs no instruction writes the lifecycle fields, the agenda and the replies alone. -/
theorem step_without_instruction {s t : State} (hr : ∀ image, (nextMove s).1 ≠ .request (.reset image))
    (hrun : (nextMove s).1 = .stream → s.run ≠ .running) (h : step s = .next t) :
    t = { s with run := t.run, paused := t.paused, dbg := t.dbg, agenda := s.agenda.tail, replies := t.replies } := by
  have hs := nextMove_state s
  obtain ⟨r, hm, rfl⟩ | ⟨hm, hrunning, -⟩ | ⟨-, -, rfl⟩ | ⟨-, -, -, rfl⟩ := step_cases h
  · obtain ⟨_, _, _, _, he⟩ := serve_eq (r := r) (nextMove s).2 fun image hi => hr image (hi ▸ hm)
    rw [he, hs]
  · exact absurd hrunning (hrun hm)
  · rw [recheckDebug_eq, hs]
  · rw [hs]

/-- A step that runs an instruction is that instruction and the sample of the flag. -/
theorem step_with_instruction {s t : State} (hm : (nextMove s).1 = .stream) (hrun : s.run = .running)
    (h : step s = .next t) : ∃ u, execute { s with agenda := s.agenda.tail } = .next u ∧ t = sampleDebug u := by
  rw [step_of_stream hm] at h
  obtain ⟨u, hu⟩ := exists_execute_next (s := { s with agenda := s.agenda.tail }) (by simp [hrun])
  rw [streamMove_of_running (s := { s with agenda := s.agenda.tail }) hrun hu] at h
  cases h
  exact ⟨u, hu, rfl⟩

/-- Settles O34: the case of a step without an instruction. -/
theorem lifecycleMovesLeaveTheProgramState : Obligations.LifecycleMovesLeaveTheProgramState := by
  unfold Obligations.LifecycleMovesLeaveTheProgramState
  exact fun _ _ => step_without_instruction

/-- Settles O33: the frame of the step without an instruction, and that of the instruction, which the sample keeps. -/
theorem onlyResetWritesTheInertState : Obligations.OnlyResetWritesTheInertState := by
  unfold Obligations.OnlyResetWritesTheInertState
  intro s t hr h
  by_cases hrun : (nextMove s).1 = .stream ∧ s.run = .running
  · obtain ⟨u, hu, rfl⟩ := step_with_instruction hrun.1 hrun.2 h
    have k := execute_frame hu
    rw [sampleDebug_eq]
    exact ⟨⟨k.sp, k.x, k.y⟩, ⟨k.flagC, k.flagI, k.flagD, k.flagB, k.flagV⟩, k.mem, k.read⟩
  · rw [step_without_instruction hr (not_and.mp hrun) h]
    exact ⟨⟨rfl, rfl, rfl⟩, ⟨rfl, rfl, rfl, rfl, rfl⟩, rfl, fun _ => rfl⟩

/-! ### The cycle counter at a boundary (R32) -/

theorem execute_cyc_le {s t : State} (h : execute s = .next t) : t.cyc.toNat ≤ 4 := by
  obtain ⟨_, i, _, -, -, hi⟩ := execute_next h
  rw [exec_cyc hi]
  cases i.operand? with
  | none => decide
  | some f => cases f <;> simp only [Option.elim, loadCycles] <;> decide

/-- A request other than a failed reset leaves the counter or clears it. -/
theorem serve_cyc_le {r : Request} {s : State} (hr : ∀ image, r = .reset image → image.length ≤ 65536)
    (hs : s.cyc.toNat ≤ 4) : (serve r s).cyc.toNat ≤ 4 := by
  by_cases hd : s.run = .disposed
  · rwa [serve_of_disposed hd]
  by_cases hreset : ∃ image, r = .reset image
  · obtain ⟨image, rfl⟩ := hreset
    obtain ⟨m, -, he⟩ := serve_reset_of_fits hd (hr image rfl)
    rw [he]
    exact Nat.zero_le 4
  · obtain ⟨_, _, _, _, he⟩ := serve_eq s (not_exists.mp hreset)
    rwa [he]

/-- Settles O32: at a boundary by the kind of step, inside an instruction by its charges. -/
theorem cycleCounterStaysWithinFour : Obligations.CycleCounterStaysWithinFour := by
  unfold Obligations.CycleCounterStaysWithinFour
  refine ⟨fun s t hr hs h => ?_, fun _ _ => instants_cyc_le⟩
  have hs' : (nextMove s).2.cyc.toNat ≤ 4 := by rwa [nextMove_state]
  obtain ⟨r, hm, rfl⟩ | ⟨-, -, u, hu, rfl⟩ | ⟨-, -, rfl⟩ | ⟨-, -, -, rfl⟩ := step_cases h
  · exact serve_cyc_le (fun image hi => hr image (hi ▸ hm)) hs'
  · rw [sampleDebug_eq]
    exact (execute_cyc_le hu : u.cyc.toNat ≤ 4)
  · rwa [recheckDebug_eq]
  · exact hs'

/-! ### dispose (R161, R163) -/

/-- Settles O46: the end state of a dispose; after it a request is only answered and no stream moves. -/
theorem disposeIsTerminal : Obligations.DisposeIsTerminal := by
  unfold Obligations.DisposeIsTerminal
  refine ⟨fun _ => serve_dispose_of_not_disposed, serve_dispose_twice, fun s t hs h => ?_⟩
  cases hm : (nextMove s).1 with
  | request r =>
    rw [step_of_request hm, serve_of_disposed (s := { s with agenda := s.agenda.tail }) hs] at h
    cases h
    rfl
  | stream =>
    rw [step_of_stream hm, streamMove_of_idle (State.active_eq_false (by simp [hs]) (by simp [hs]))] at h
    cases h
    rfl

/-! ### The debug flag (R160) -/

/-- Only a debugToggle before dispose writes `dbg`. -/
theorem serve_dbg (r : Request) (s : State) :
    (serve r s).dbg = if r = .debugToggle ∧ s.run ≠ .disposed then !s.dbg else s.dbg := by
  by_cases hs : s.run = .disposed
  · rw [serve_of_disposed hs, if_neg fun h => h.2 hs, State.answer_dbg]
  cases r with
  | debugToggle =>
    rw [if_pos ⟨rfl, hs⟩]
    cases ha : s.active with
    | false => rw [serve_debugToggle_of_idle hs ha]
    | true => rw [serve_debugToggle_of_active ha]
  | reset image =>
    rw [if_neg (by simp)]
    obtain ⟨-, he⟩ | ⟨m, -, he⟩ := serve_reset_cases hs image <;> rw [he] <;> rfl
  | start =>
    rw [if_neg (by simp)]
    by_cases hr : s.run = .stopped
    · rw [serve_start_of_stopped hr, State.answer_dbg]
    · rw [serve_start_of_not_stopped hr, State.answer_dbg]
  | dispose =>
    rw [if_neg (by simp), serve_dispose_of_not_disposed hs]

theorem streamMove_dbg {s t : State} (h : streamMove s = .next t) : t.dbg = s.dbg := by
  obtain ⟨-, u, hu, rfl⟩ | ⟨-, rfl⟩ | ⟨-, rfl⟩ := streamMove_next h
  · rw [sampleDebug_eq, (execute_frame hu).dbg]
  · rw [recheckDebug_eq]
  · rfl

/-- Settles O42: the toggle by case, and no other move writes the flag. -/
theorem debugToggleInvertsTheRequest : Obligations.DebugToggleInvertsTheRequest := by
  unfold Obligations.DebugToggleInvertsTheRequest
  refine ⟨fun _ => serve_debugToggle_of_idle, fun _ => serve_debugToggle_of_active,
    fun _ hs => serve_of_disposed hs .debugToggle, fun s t h => ?_⟩
  cases hm : (nextMove s).1 with
  | request r =>
    rw [step_of_request hm] at h
    cases h
    simpa using serve_dbg r { s with agenda := s.agenda.tail }
  | stream =>
    rw [step_of_stream hm] at h
    rw [if_neg (by simp), streamMove_dbg h]

end Sys2Proof.Machine
end

section
/-!
PROOFS. The invariant of the machine: it holds at reset and every step keeps it (R34, R160; log entry 4), and from it what
becomes of a waiting debugToggle (R160).
-/

namespace Sys2Proof.Machine

/-! ### What keeps the invariant -/

/-- A change of `paused` that agrees with the new `run` establishes the invariant, whatever waited before: it completes the
toggles that wait for the new value. -/
theorem inv_setPaused {s : State} (hm : s.mem.wf = true) {v : Bool} {r : Run} (hr : v = decide (r = .paused)) :
    Safety.Inv { s.setPaused v with run := r } :=
  ⟨hm, hr, awaiting_not_mem_settle v s.replies⟩

/-- A reply keeps the invariant unless it waits for the value `paused` has. -/
theorem inv_answer {s : State} (h : Safety.Inv s) {q : Reply} (hq : q ≠ .awaiting s.paused) : Safety.Inv (s.answer q) := by
  obtain ⟨hm, hp, ht⟩ := h
  refine ⟨hm, hp, fun hmem => ?_⟩
  obtain hold | hnew := List.mem_append.mp hmem
  · exact ht hold
  · exact hq (List.mem_singleton.mp hnew).symm

theorem inv_stopStream {s : State} (hm : s.mem.wf = true) : Safety.Inv (stopStream s) := by
  obtain ⟨r, he, -, hp⟩ := stopStream_eq s
  rw [he]
  exact inv_setPaused hm (decide_eq_false hp).symm

/-- The free memory of a failed reset is in canonical form. -/
theorem inv_unspecify {s : State} (h : Safety.Inv s) : Safety.Inv (unspecify s) := by
  obtain ⟨-, hp, ht⟩ := h
  refine ⟨Memory.place_wf ?_, hp, ht⟩
  rw [Nat.zero_add]
  exact List.length_take_le _ _

theorem serve_inv (r : Request) {s : State} (h : Safety.Inv s) : Safety.Inv (serve r s) := by
  by_cases hs : s.run = .disposed
  · rw [serve_of_disposed hs]
    exact inv_answer h nofun
  cases r with
  | reset image =>
    obtain ⟨-, he⟩ | ⟨m, hm, he⟩ := serve_reset_cases hs image
    · rw [he]
      exact inv_answer (inv_unspecify (inv_stopStream h.1)) nofun
    · have hreset : Safety.Inv (installReset m (stopStream s)) :=
        ⟨padImage_wf (le_refl params.memoryLimit) hm, rfl, awaiting_not_mem_settle false s.replies⟩
      rw [he]
      exact inv_answer hreset nofun
  | start =>
    by_cases hr : s.run = .stopped
    · rw [serve_start_of_stopped hr]
      obtain ⟨hm, hp, ht⟩ := inv_answer h (q := .done) nofun
      exact ⟨hm, hp.trans (by rw [State.answer_run, hr]; rfl), ht⟩
    · rw [serve_start_of_not_stopped hr]
      exact inv_answer h nofun
  | debugToggle =>
    cases ha : s.active with
    | false =>
      rw [serve_debugToggle_of_idle hs ha]
      exact inv_answer h nofun
    | true =>
      rw [serve_debugToggle_of_active ha]
      refine inv_answer h ?_
      split
      · nofun
      · next hne => exact fun heq => hne (Reply.awaiting.inj heq).symm
  | dispose =>
    rw [serve_dispose_of_not_disposed hs]
    exact inv_answer (inv_setPaused (r := .disposed) h.1 rfl) nofun

theorem SameOutside.inv {s t : State} (k : SameOutside s t) (h : Safety.Inv s) : Safety.Inv t := by
  rwa [Safety.Inv, Safety.PausedAgrees, Safety.TogglesAgree, k.mem, k.paused, k.run, k.replies]

theorem streamMove_inv {s t : State} (h : Safety.Inv s) (ht : streamMove s = .next t) : Safety.Inv t := by
  obtain ⟨-, u, hu, rfl⟩ | ⟨-, rfl⟩ | ⟨-, rfl⟩ := streamMove_next ht
  · have hinv := (execute_frame hu).inv h
    rw [sampleDebug]
    split
    · exact inv_setPaused hinv.1 rfl
    · exact hinv
  · rw [recheckDebug]
    split
    · exact h
    · exact inv_setPaused h.1 rfl
  · exact h

/-- Settles O31: a request and a move of the stream each keep the invariant, and it does not mention the agenda. -/
theorem everyStepKeepsTheInvariant : Obligations.EveryStepKeepsTheInvariant := by
  unfold Obligations.EveryStepKeepsTheInvariant
  intro s t h hstep
  have h' : Safety.Inv { s with agenda := s.agenda.tail } := h
  cases hm : (nextMove s).1 with
  | request r =>
    rw [step_of_request hm] at hstep
    cases hstep
    exact serve_inv r h'
  | stream =>
    rw [step_of_stream hm] at hstep
    exact streamMove_inv h' hstep

/-- Settles O30: no cell, no pause and no reply. -/
theorem invariantHoldsAtReset : Obligations.InvariantHoldsAtReset := by
  unfold Obligations.InvariantHoldsAtReset
  exact ⟨reset_mem_wf, rfl, List.not_mem_nil⟩

/-! ### What becomes of a waiting debugToggle -/

/-- Where the invariant holds, a request settles the earlier replies for the `paused` it leaves and adds its own. -/
theorem serve_replies_settle (r : Request) {s : State} (h : Safety.TogglesAgree s) :
    ∃ q, (serve r s).replies = s.replies.map (Reply.settle (serve r s).paused) ++ [q] := by
  obtain ⟨q, ⟨hp, hq⟩ | ⟨hp, hq⟩⟩ := serve_replies r s
  · exact ⟨q, by rw [hp, hq, map_settle_of_not_mem h]⟩
  · exact ⟨q, by rw [hp, hq]⟩

/-- Where the invariant holds, a move of the stream settles the replies for the `paused` it leaves. -/
theorem streamMove_replies {s t : State} (h : Safety.TogglesAgree s) (ht : streamMove s = .next t) :
    t.replies = s.replies.map (Reply.settle t.paused) := by
  have hkeep := map_settle_of_not_mem h
  obtain ⟨-, u, hu, rfl⟩ | ⟨-, rfl⟩ | ⟨-, rfl⟩ := streamMove_next ht
  · have k := execute_frame hu
    rw [sampleDebug_eq, k.dbg, k.paused, k.replies]
    cases s.dbg <;> simp [hkeep]
  · rw [recheckDebug_eq]
    cases s.dbg <;> simp [hkeep]
  · exact hkeep.symm

theorem step_replies {s t : State} (h : Safety.TogglesAgree s) (hstep : step s = .next t) :
    ∃ new, t.replies = s.replies.map (Reply.settle t.paused) ++ new := by
  cases hm : (nextMove s).1 with
  | request r =>
    rw [step_of_request hm] at hstep
    cases hstep
    obtain ⟨q, hq⟩ := serve_replies_settle r (s := { s with agenda := s.agenda.tail }) h
    exact ⟨[q], hq⟩
  | stream =>
    rw [step_of_stream hm] at hstep
    exact ⟨[], by rw [List.append_nil]; exact streamMove_replies (s := { s with agenda := s.agenda.tail }) h hstep⟩

/-- The reply to the `n`-th request in a list of replies settled for `v`. -/
theorem getElem?_settle_append {l : List Reply} {n : Nat} {q : Reply} (h : l[n]? = some q) (v : Bool) (new : List Reply) :
    (l.map (Reply.settle v) ++ new)[n]? = some (Reply.settle v q) := by
  obtain ⟨hn, -⟩ := List.getElem?_eq_some_iff.mp h
  rw [List.getElem?_append_left (by rwa [List.length_map]), List.getElem?_map, h]
  rfl

theorem streamMove_replies_length {s t : State} (ht : streamMove s = .next t) : t.replies.length = s.replies.length := by
  obtain ⟨-, u, hu, rfl⟩ | ⟨-, rfl⟩ | ⟨-, rfl⟩ := streamMove_next ht
  · rw [sampleDebug_eq, ← (execute_frame hu).replies]
    cases u.dbg <;> simp
  · rw [recheckDebug_eq]
    cases s.dbg <;> simp
  · rfl

/-- A request adds one reply and a move of the stream none. -/
theorem step_replies_length {s t : State} (hstep : step s = .next t) :
    t.replies.length = s.replies.length + if (nextMove s).1 = .stream then 0 else 1 := by
  cases hm : (nextMove s).1 with
  | request r =>
    rw [step_of_request hm] at hstep
    cases hstep
    obtain ⟨q, ⟨-, hq⟩ | ⟨-, hq⟩⟩ := serve_replies r { s with agenda := s.agenda.tail } <;> rw [hq] <;> simp
  | stream =>
    rw [step_of_stream hm] at hstep
    rw [if_pos rfl]
    exact streamMove_replies_length (s := { s with agenda := s.agenda.tail }) hstep

/-- After a move of an active stream `paused` is the debug flag. -/
theorem streamMove_paused {s t : State} (h : Safety.PausedAgrees s) (ha : s.active = true) (ht : streamMove s = .next t) :
    t.paused = s.dbg := by
  obtain ⟨hr, u, hu, rfl⟩ | ⟨hr, rfl⟩ | ⟨hidle, -⟩ := streamMove_next ht
  · have k := execute_frame hu
    rw [sampleDebug_eq, k.dbg, k.paused, h, hr]
    rfl
  · rw [recheckDebug_eq, h, hr]
    rfl
  · rw [ha] at hidle
    cases hidle

/-- Settles O43: a step settles the replies for the `paused` it leaves, which after a move of an active stream is `dbg`. -/
theorem waitingTogglesCompleteWhenPausedAgrees : Obligations.WaitingTogglesCompleteWhenPausedAgrees := by
  unfold Obligations.WaitingTogglesCompleteWhenPausedAgrees
  refine ⟨fun s t n q ⟨_, _, ht⟩ hstep hq => ?_, fun _ _ => step_replies_length, fun s t n ⟨_, hp, ht⟩ ha hmove => ?_⟩
  · obtain ⟨new, hnew⟩ := step_replies ht hstep
    rw [hnew]
    exact getElem?_settle_append hq t.paused new
  · have hpaused := streamMove_paused hp ha hmove
    refine ⟨hpaused, fun hq => ?_⟩
    have hdone := getElem?_settle_append hq t.paused []
    rwa [List.append_nil, ← streamMove_replies ht hmove, hpaused, Reply.settle_awaiting, if_pos rfl] at hdone

end Sys2Proof.Machine
end
